-- ==== Sys2Proof/Word.lean ====
section
/-! DEFINITION. Word.lean: the widths the manual names (a byte, a service-clock time) and the one way a table of a
fixed number of like things is built from a function of its index. -/

namespace Sys2Proof

/-- One byte of a frame or of the nonvolatile memory. -/
abbrev Byte := BitVec 8

/-- A value of the 32-bit service clock (R169): it wraps, so times are compared by their difference. -/
abbrev Time := BitVec 32

/-- The table of `n` values whose `i`-th value, counted from 0, is `f i`. -/
def tabulate {α : Type} (n : Nat) (f : Nat → α) : Vector α n :=
  ⟨((List.range n).map f).toArray, by simp⟩

end Sys2Proof
end

