-- ==== Sys2Proof/Syntax.lean ====
section
/-! DEFINITION. Syntax.lean: the commands of the FS420, one constructor for each row of spec/opcode_table.json.

A command is one indivisible step of the part (95_what_each_step_holds.md). A command that takes a request or a gateway
frame carries the link it is taken from and nothing else: the frame stands at the head of that link's inbound queue in
the state (R6). A command that delivers an expiry carries nothing: the deadline list says which expiry is next (R172). -/

namespace Sys2Proof

/-- A terminal link (01, "the six links"). -/
inductive Tl
  | tl0 | tl1 | tl2 | tl3
  deriving DecidableEq, Repr

/-- One of the six serial links. -/
inductive Link
  | tl (t : Tl)
  | ol
  | al
  deriving DecidableEq, Repr

/-- The commands. -/
inductive Instr
  /-- RESET_N is taken low (R191). -/
  | resetNLow
  /-- RESET_N is released while the start-mode straps read `straps` (R179). -/
  | resetNRelease (straps : BitVec 2)
  /-- The internal reset of RESTART, ending while the straps read `straps` (R190). -/
  | internalReset (straps : BitVec 2)
  /-- The part enters HALTED (R189). -/
  | enterHalted
  /-- The PFAIL pin takes the level `level` (R179; DEDUCED, log entry 8). -/
  | pfailAsserted (level : Bool)
  /-- The tick counter reaches the divisor in force (R168). -/
  | serviceClockTick
  /-- A whole second is counted (R176). -/
  | wholeSecond
  /-- A rising edge on REFPPS (R174). -/
  | refppsEdge
  /-- The last byte `b` of a frame arrives on link `l` (R3). -/
  | frameComplete (l : Link) (b : Byte)
  /-- 20 ms have passed inside a frame on link `l` (R2). -/
  | interByteTimeout (l : Link)
  /-- The last byte of the head frame of link `l`'s outbound queue has been sent (R10). -/
  | frameTransmitted (l : Link)
  /-- A held reply moves into terminal link `t`'s outbound queue (R8). -/
  | heldReplyMove (t : Tl)
  /-- The oldest notice of the list moves into the OL outbound queue (R11). -/
  | noticeMove
  /-- The transmit arbiter grants AL (R134). -/
  | arbiterGrant
  /-- A frame whose kind link `l` does not accept is taken (R4). -/
  | unacceptedKindFrame (l : Link)
  /-- LOOKUP by check number, taken on `t` (R50). -/
  | lookup (t : Tl)
  /-- LOOKUP with check number 0, taken on `t` (R51). -/
  | lookupByTable (t : Tl)
  /-- CLAIM taken on `t` (R94). -/
  | claim (t : Tl)
  /-- RELEASE taken on `t` (R99). -/
  | release (t : Tl)
  /-- PRESENT taken on `l`, a terminal link or OL (R41). -/
  | present (l : Link)
  /-- VIEW_SHARE taken on `t` (R61). -/
  | viewShare (t : Tl)
  /-- SET_PLAN taken on `t` (R58). -/
  | setPlan (t : Tl)
  /-- ASSIGN_LINE taken on `t` (R60). -/
  | assignLine (t : Tl)
  /-- PAY_CARD taken on `t` (R110). -/
  | payCard (t : Tl)
  /-- PAY_CASH taken on `t` (R119). -/
  | payCash (t : Tl)
  /-- VOID_TENDER taken on `t` (R121). -/
  | voidTender (t : Tl)
  /-- TENDER_STATUS naming a check, taken on `t` (R123). -/
  | tenderStatus (t : Tl)
  /-- TENDER_STATUS with check number 0, taken on `t` (R123). -/
  | tenderStatusFlight (t : Tl)
  /-- OPEN_CHECK taken on OL (R33). -/
  | openCheck
  /-- ADD_LINE taken on OL (R37). -/
  | addLine
  /-- VOID_LINE taken on OL (R38). -/
  | voidLine
  /-- SET_COVERS taken on OL (R39). -/
  | setCovers
  /-- MOVE_CHECK taken on OL (R40). -/
  | moveCheck
  /-- CLOSE_CHECK taken on OL (R44). -/
  | closeCheck
  /-- DISCARD_CHECK taken on OL (R45). -/
  | discardCheck
  /-- READ_CHECK of section 0 taken on OL (R47). -/
  | readCheckSummary
  /-- READ_CHECK of section 1 taken on OL (R48). -/
  | readCheckLines
  /-- READ_CHECK of section 2 taken on OL (R49). -/
  | readCheckShares
  /-- READ_CHECK of section 3 taken on OL (R49). -/
  | readCheckTenders
  /-- RESOLVE_TENDER with resolution ACCEPT taken on OL (R125). -/
  | resolveTenderAccept
  /-- RESOLVE_TENDER with resolution REVERSE taken on OL (R125). -/
  | resolveTenderReverse
  /-- TERMINAL_CONTROL with action RESET taken on OL (R22). -/
  | terminalControlReset
  /-- TERMINAL_CONTROL with action BAR taken on OL (R22). -/
  | terminalControlBar
  /-- TERMINAL_CONTROL with action UNBAR taken on OL (R22). -/
  | terminalControlUnbar
  /-- READ_EXCEPTIONS taken on OL (R166). -/
  | readExceptions
  /-- CLEAR_EXCEPTION taken on OL (R167). -/
  | clearException
  /-- STATUS taken on OL (R14). -/
  | status
  /-- CALIBRATE taken on OL (R173). -/
  | calibrate
  /-- RESTART taken on OL (R190). -/
  | restart
  /-- CONFIG_BEGIN taken on OL (R183). -/
  | configBegin
  /-- CONFIG_RECORD taken on OL (R183). -/
  | configRecord
  /-- CONFIG_END taken on OL (R183). -/
  | configEnd
  /-- AUTH_REPLY taken on AL (R139, R140). -/
  | authReply
  /-- REVERSAL_REPLY taken on AL (R144). -/
  | reversalReply
  /-- SUBMIT_REPLY taken on AL (R145). -/
  | submitReply
  /-- GATEWAY_ERROR taken on AL (R141). -/
  | gatewayError
  /-- LINK_ALIVE taken on AL (R131). -/
  | linkAlive
  /-- An ACTIVE claim's lease falls due (R98). -/
  | claimLeaseExpiry
  /-- A LIVE entry's timeout expires in QUEUED or SENT (R137). -/
  | liveTimeout
  /-- A LIVE or DRAIN entry's late window expires in WATCH (R142). -/
  | watchExpiry
  /-- A DRAIN entry's timeout expires in SENT (R146). -/
  | drainTimeout
  /-- A REVERSAL entry's late window expires (R144). -/
  | reversalExpiry
  /-- The AL alive deadline expires (R131). -/
  | alAliveExpiry
  /-- The AL settle deadline expires (R131). -/
  | alSettleExpiry
  /-- The calibration guard expires (R174). -/
  | calGuardExpiry
  /-- The memory transfer in progress ends: with a memory error when `error` is set, and otherwise well (R150). -/
  | memoryTransferEnd (error : Bool)
  /-- The memory transfer in progress has not ended 50 ms after it began (R150). -/
  | operationLimit
  /-- SAVE_IMAGE, at the head of the memory operation queue, takes its snapshot (R189). -/
  | saveImageSnapshot
  /-- A byte `b` that does not complete a frame arrives on link `l` (R2). -/
  | byteReceived (l : Link) (b : Byte)
  /-- A byte with a stop-bit error arrives on link `l` (R2). -/
  | stopBitError (l : Link)
  /-- The partner of link `l` drives RDY_IN to `level` (R10; DEDUCED, log entry 8). -/
  | rdyInAsserted (l : Link) (level : Bool)
  deriving DecidableEq, Repr

end Sys2Proof
end

