-- ==== Sys2Proof/Config.lean ====
section
/-! DEFINITION. Config.lean: the figures every chapter shares (00_scope.md, "Figures every chapter shares"), the fixed
intervals and addresses the rules name, and the one free value of the model. -/

namespace Sys2Proof.Config

/-- Places of an inbound queue (R5). -/
def inboundPlaces : Nat := 8
/-- Places of an outbound queue (R10). -/
def outboundPlaces : Nat := 16
/-- Places of the notice list (R11). -/
def noticePlaces : Nat := 32
/-- Places of the exception list (R164). -/
def exceptionPlaces : Nat := 64
/-- Places of the memory operation queue (R149). -/
def operationPlaces : Nat := 16
/-- Greatest value of a 16-bit counter (R13). -/
def counterMax : Nat := 65535
/-- Greatest value of NOTICES_LOST and of EXCEPTIONS_LOST (R13, R164). -/
def lostMax : Nat := 255

/-- Highest terminal number (R16). -/
def terminals : Nat := 96
/-- Check slots (R27). -/
def checkSlots : Nat := 160
/-- Lines a check may have (R34). -/
def linesPerCheck : Nat := 200
/-- Line records of the pool (R29). -/
def linePool : Nat := 3072
/-- Share records of a check slot (R52). -/
def shareRecords : Nat := 16
/-- Tenders a check may have (R108). -/
def tendersPerCheck : Nat := 24
/-- Tender records of the pool (R107). -/
def tenderPool : Nat := 768
/-- Claim records (R92). -/
def claimRecords : Nat := 64
/-- Claims one terminal may hold (R94). -/
def claimsPerTerminal : Nat := 4
/-- Authorization entries (R127). -/
def authEntries : Nat := 48
/-- FREE entries a new submission must find (R136). -/
def freeForDrain : Nat := 9
/-- Journal slots (R152). -/
def journalSlots : Nat := 512
/-- Greatest check total, item net, class base and auth amount (R34, R88). -/
def amountMax : Nat := 99999999
/-- Greatest dwell count (R176). -/
def dwellMax : Nat := 65535

/-- Milliseconds between two bytes of one frame that end it (R2). -/
def interByteLimit : Nat := 20
/-- Milliseconds one memory transfer may take (R150). -/
def operationLimit : Nat := 50
/-- Milliseconds of the calibration guard (R173, R174). -/
def guardInterval : Nat := 1500
/-- Counted reference edges of a calibration (R174). -/
def calibrationEdges : Nat := 16
/-- The least and the greatest tick divisor (R168). -/
def divisorMin : Nat := 23280
/-- The greatest tick divisor (R168). -/
def divisorMax : Nat := 24720
/-- The built-in tick divisor (R168). -/
def divisorBuiltIn : Nat := 24000

/-- Byte address of the configuration image (R180). -/
def configBase : Nat := 0x000000
/-- Byte address of the journal region (R152). -/
def journalBase : Nat := 0x010000
/-- Bytes of one journal slot (R152). -/
def slotBytes : Nat := 128
/-- Byte address of the preservation image (R184). -/
def imageBase : Nat := 0x020000
/-- Bytes of the preservation image's header (R185). -/
def imageHeaderBytes : Nat := 32
/-- Most bytes the body of the preservation image may have (R185). -/
def imageBodyMax : Nat := 262112
/-- Most bytes of one transfer of LOAD_CONFIG, READ_IMAGE and SAVE_IMAGE (R150). -/
def transferBytes : Nat := 256

/-- FREE VALUE (DESIGN CHOICE, log entry 3). A byte the manual leaves open: what a cut-off or faulted write or erase leaves in the
memory (R150: "What the memory then holds is unknown to the part"; R151), and a reported byte whose value does not fit
(DESIGN CHOICE, log entry 4). The `n`-th open byte of a run is `freeByte n`; nothing in Lean knows its value. -/
opaque freeByte : Nat → Byte

end Sys2Proof.Config
end

