-- ==== Sys2Proof/Machine/State.lean ====
section
/-! DEFINITION. Machine/State.lean: everything the manual gives the FS420 to hold, block by block, as plain data; the
nonvolatile memory attached to it; the levels of its input pins; the queue of commands that wait; and the state right
after reset.

Quantities the manual defines from others are functions, not fields, so that they cannot disagree: RDY_OUT and ATTN
(Flags.lean), a check's anchored flag and flight count, a share's remaining amount and state, and the occupancies that
STATUS reports. -/

namespace Sys2Proof.Machine

/-! ### Link Unit (01) -/

/-- A framed message: its sync byte, length field and check value follow from the rest (01, "Frame format"). -/
structure Frame where
  kind : Byte
  tag : Byte
  terminal : BitVec 16
  body : List Byte
  deriving DecidableEq, Repr

/-- A receiver (R2). `counted` says that the present run of non-sync bytes has been counted; `last` is the service clock
at the last byte of the partial frame; `got` holds the bytes that follow the length field, in order of arrival. -/
inductive Receiver
  | hunt (counted : Bool)
  | header (low : Option Byte) (last : Time)
  | body (length : Nat) (got : List Byte) (last : Time)
  deriving DecidableEq, Repr

/-- One serial link: its receiver, its two queues, its transmitter, its RDY_IN level and its counters (R2 to R13).
`sending` says that the transmission of the head of the outbound queue has started. -/
structure LinkState where
  receiver : Receiver
  inbound : List Frame
  outbound : List Frame
  sending : Bool
  rdyIn : Bool
  crcErrors : Nat
  framingErrors : Nat
  overruns : Nat
  advisoriesLost : Nat
  deriving DecidableEq, Repr

/-- The six links. -/
structure Links where
  tl0 : LinkState
  tl1 : LinkState
  tl2 : LinkState
  tl3 : LinkState
  ol : LinkState
  al : LinkState
  deriving DecidableEq, Repr

/-! ### Terminal Roster (02) -/

/-- The state of a roster entry (R16). -/
inductive RosterState
  | unseen | active | suspect | barred
  deriving DecidableEq, Repr

/-- What a roster entry keeps of the last frame that updated it (R16): the four values are present together. -/
structure Heard where
  link : Tl
  time : Time
  tag : Byte
  kind : Byte
  deriving DecidableEq, Repr

/-- A late reply in a held-reply slot, with its hold number (R24). -/
structure HeldReply where
  frame : Frame
  number : BitVec 32
  deriving DecidableEq, Repr

/-- One entry of the Terminal Roster (R16). -/
structure RosterEntry where
  state : RosterState
  heard : Option Heard
  held : Option HeldReply
  inFlight : Bool
  claimCount : Nat
  deriving DecidableEq, Repr

/-! ### Check Table, Share Engine and Tender Unit (03, 04, 07) -/

/-- ITEM or DISCOUNT (R30). -/
inductive LineKind
  | item | discount
  deriving DecidableEq, Repr

/-- A line record (R30). `shareSet` has bit s − 1 set for each share s of the set; it is absent outside BY_ITEM. -/
structure Line where
  number : Nat
  kind : LineKind
  code : BitVec 32
  cls : Nat
  price : Int
  quantity : Nat
  amount : Int
  live : Bool
  shareSet : Option (BitVec 16)
  deriving DecidableEq, Repr

/-- A plan kind (R55). -/
inductive PlanKind
  | none | even | byItem | amount | fixed
  deriving DecidableEq, Repr

/-- The plan record of a check (R55). -/
structure Plan where
  kind : PlanKind
  count : Nat
  given : List Nat
  deriving DecidableEq, Repr

/-- A share record (R52). The remaining amount and the state follow from these (R53). -/
structure Share where
  due : Nat
  preTax : Nat
  portions : Option (Vector Nat 8)
  applied : Nat
  tips : Nat
  rounding : Int
  revision : BitVec 16
  deriving DecidableEq, Repr

/-- The figures of a check that are replaced as a set (R28). -/
structure Totals where
  bases : Vector Nat 8
  itemNet : Nat
  taxes : Vector Nat 8
  service : Nat
  total : Nat
  deriving DecidableEq, Repr

/-- The late mark of a DEFERRING tender (R107, R115), with the gateway's answer it keeps. -/
inductive LateMark
  | none
  | confirmed (code : List Byte)
  | declined (reason : Nat)
  deriving DecidableEq, Repr

/-- The ten states of a tender (R109), each with the fields of R107 that are present in it: the approval code, the
decline reason, the late mark and the journal slot. -/
inductive TenderState
  | authorizing
  | deferring (slot : Nat) (mark : LateMark)
  | approved (code : List Byte)
  | deferred (slot : Nat)
  | declined (reason : Nat)
  | failed
  | cashAccepted
  | reversed
  | unknown
  | lateDeclined
  deriving DecidableEq, Repr

/-- The kind of a tender with the fields of that kind alone (R107). -/
inductive Payment
  | card (tip suffix : Nat)
  | cash (tendered change : Nat) (rounding : Int)
  deriving DecidableEq, Repr

/-- A tender record (R107). `requestTag` is the tag of the PAY_CARD request, which the outcome echoes (R113). -/
structure Tender where
  id : Nat
  share : Nat
  terminal : Nat
  payment : Payment
  amount : Nat
  state : TenderState
  requestTag : Byte
  deriving DecidableEq, Repr

/-- The state of a check (R31). -/
inductive CheckState
  | opened | presented | settling | settled
  deriving DecidableEq, Repr

/-- A check slot in use: the check record, the plan and share records, the tenders and the dwell accumulator (R28, R52,
R55, R107, R176). -/
structure Check where
  number : Nat
  table : Nat
  covers : Nat
  state : CheckState
  lines : List Line
  totals : Totals
  plan : Plan
  shares : Vector Share 16
  tenders : List Tender
  openedAt : Time
  presentedAt : Option Time
  anchoredAt : Option Time
  settledAt : Option Time
  dwell : Nat
  alerted : Bool
  deriving DecidableEq, Repr

/-! ### Claim Table (06) -/

/-- The scope of a claim (R92). -/
inductive Scope
  | whole
  | share (index : Nat)
  deriving DecidableEq, Repr

/-- The state of a claim (R92). -/
inductive ClaimState
  | active | pinned
  deriving DecidableEq, Repr

/-- A claim record in use (R92). -/
structure Claim where
  terminal : Nat
  check : Nat
  scope : Scope
  state : ClaimState
  grantedAt : Time
  deriving DecidableEq, Repr

/-! ### Authorization Unit (08) -/

/-- Where a reversal's approval came from (R127). -/
inductive Source
  | authorization | submission
  deriving DecidableEq, Repr

/-- The kind of an entry that is not FREE, with the fields of that kind alone (R127). A LIVE entry's token is empty once
it is wiped. -/
inductive EntryKind
  | live (token : List Byte) (eligible : Bool)
  | drain (slot : Nat) (sequence : BitVec 32)
  | reversal (code : List Byte) (source : Source) (sequence : BitVec 32)
  deriving DecidableEq, Repr

/-- The state of an entry that is not FREE (R127). -/
inductive EntryState
  | queued | sent | watch
  deriving DecidableEq, Repr

/-- The report fields of an entry (R127). -/
structure Report where
  check : Nat
  table : Nat
  terminal : Nat
  tender : Nat
  deriving DecidableEq, Repr

/-- A tender reference: check slot and tender id (R127). -/
structure TenderRef where
  slot : Nat
  id : Nat
  deriving DecidableEq, Repr

/-- An authorization entry that is not FREE (R127). An orphan has no tender reference. -/
structure Entry where
  kind : EntryKind
  state : EntryState
  tender : Option TenderRef
  report : Report
  amount : Nat
  deriving DecidableEq, Repr

/-- An authorization entry: its generation, and its use unless it is FREE (R127). -/
structure EntryCell where
  generation : BitVec 8
  use : Option Entry
  deriving DecidableEq, Repr

/-- The AL state (R131). -/
inductive AlState
  | down | settling | up
  deriving DecidableEq, Repr

/-! ### Journal Unit, exceptions and Memory Port (09) -/

/-- The state of a mirror entry that is not EMPTY (R153). -/
inductive SlotState
  | reserved | pending | void
  deriving DecidableEq, Repr

/-- The contents of a journal slot, but for its state and sequence (R152). -/
structure SlotContents where
  check : Nat
  table : Nat
  terminal : Nat
  tender : Nat
  amount : Nat
  tip : Nat
  stamp : Time
  token : List Byte
  deriving DecidableEq, Repr

/-- A mirror entry that is not EMPTY (R153). -/
structure Slot where
  state : SlotState
  sequence : BitVec 32
  contents : SlotContents
  deriving DecidableEq, Repr

/-- The Journal Unit (R153, R161, R163). `eraseAgain` says that the ERASE of the head slot faulted and is asked for again
at the next completion of another operation (R158). -/
structure Journal where
  mirror : Vector (Option Slot) 512
  head : Nat
  tail : Nat
  nextSequence : BitVec 32
  occupied : Nat
  deferredTotal : Nat
  highWater : Bool
  locked : Bool
  eraseAgain : Bool
  deriving DecidableEq, Repr

/-- An exception entry (R164). -/
structure ExceptionEntry where
  number : BitVec 16
  kind : Nat
  detail : Nat
  check : Nat
  table : Nat
  terminal : Nat
  tender : Nat
  amount : Nat
  sequence : Option (BitVec 32)
  code : Option (List Byte)
  stamp : Time
  slotStamp : Time
  deriving DecidableEq, Repr

/-- A memory operation (R149). `ofHead` tells the ERASE of the head slot from an ERASE that the scan requested (R162). -/
inductive MemoryOp
  | append (slot : Nat)
  | markVoid (slot : Nat)
  | erase (slot : Nat) (ofHead : Bool)
  | loadConfig
  | scan
  | readImage
  | saveImage
  | consumeImage
  deriving DecidableEq, Repr

/-- The Memory Port (R149, R150): the queue, whose head is the operation in progress, the waiting line, how many transfers
of that operation have ended, the service clock at the present transfer's first byte, and the bytes of the preservation
image from the snapshot on (R189). -/
structure Port where
  queue : List MemoryOp
  waiting : List MemoryOp
  transfersDone : Nat
  transferStart : Time
  snapshot : Option (List Byte)
  deriving DecidableEq, Repr

/-- The attached nonvolatile memory: the bytes that differ from an erased byte, by rising address. -/
abbrev Memory := List Host.Cell

/-! ### Service Clock Unit (10) -/

/-- The owner of a deadline (R170). -/
inductive Owner
  | claimLease (record : Nat)
  | auth (entry : Nat) (generation : BitVec 8)
  | alAlive
  | alSettle
  | calGuard
  deriving DecidableEq, Repr

/-- An entry of the deadline list (R170). -/
structure Deadline where
  due : Time
  owner : Owner
  deriving DecidableEq, Repr

/-- The calibration state, with the edge count and the clock count (R173, R174). -/
inductive Calibration
  | idle
  | waiting
  | counting (edges clocks : Nat)
  deriving DecidableEq, Repr

/-- The Service Clock Unit (R168, R169, R173). `nextDivisor` takes effect at the next tick boundary; `secondsDue` counts
the whole seconds that have passed and are not yet counted (DESIGN CHOICE, log entry 6). -/
structure ClockUnit where
  clock : Time
  tickCounter : Nat
  divisor : Nat
  nextDivisor : Option Nat
  second : Nat
  secondsDue : Nat
  deadlines : List Deadline
  calibration : Calibration
  calFail : Bool
  deriving DecidableEq, Repr

/-! ### Start-up and Preservation Controller (11) -/

/-- The start-up state (R179). -/
inductive Startup
  | reset | loading | scanning | restoring | ready | saving | halted
  deriving DecidableEq, Repr

/-- A configuration: the VENUE record's values and the permit list (R180, R181). -/
structure Venue where
  inclusive : Bool
  rates : Vector Nat 8
  serviceRate : Nat
  serviceThreshold : Nat
  cashUnit : Nat
  tipCeiling : Nat
  claimLease : Nat
  authTimeout : Nat
  lateWindow : Nat
  aliveTimeout : Nat
  settleInterval : Nat
  duplicateWindow : Nat
  dwellThreshold : Nat
  floorLimit : Nat
  offlineCeiling : Nat
  window : Nat
  drainShare : Nat
  highWater : Nat
  tickDivisor : Nat
  permits : BitVec 96
  deriving DecidableEq, Repr

/-- The configuration source that START_COMPLETE reports (R184). -/
inductive ConfigSource
  | defaults | memory | download
  deriving DecidableEq, Repr

/-- The preservation-image status (R184). -/
inductive ImageStatus
  | unread | absent | rejected | faulted | sound
  deriving DecidableEq, Repr

/-- A download that the part waits for (R183): the declared record count once CONFIG_BEGIN has given it, and the records
staged since, oldest first. -/
structure Download where
  declared : Option Nat
  staged : List (List Byte)
  deriving DecidableEq, Repr

/-- The Start-up and Preservation Controller (R179 to R190). `download` is present while the part waits for one.
`restarting` says that SAVING was entered by RESTART; `replyAhead` counts the frames of the OL outbound queue up to and
including the RESTART reply that have not yet left (R190). `restored`, `rejected` and `unknowns` are what START_COMPLETE
reports (R184). -/
structure Control where
  startup : Startup
  straps : BitVec 2
  venue : Venue
  source : ConfigSource
  clamped : Bool
  defaulted : Bool
  restorePartial : Bool
  imageStatus : ImageStatus
  download : Option Download
  restarting : Bool
  replyAhead : Nat
  restored : Nat
  rejected : Nat
  unknowns : Nat
  deriving DecidableEq, Repr

/-! ### The whole -/

/-- The part with its memory and its input pins. `kept` is the outbound place kept for the reply of the request that is
being handled (R6); no place is kept between commands. `pfail` is the level of PFAIL. `openBytes` counts the open bytes read
so far (the model's own: DESIGN CHOICE, log entry 3). -/
structure Part where
  links : Links
  noticeList : List Frame
  noticeSequence : BitVec 8
  noticesLost : Nat
  kept : Option Link
  roster : Vector RosterEntry 96
  holdCounter : BitVec 32
  reheard : Nat
  checks : Vector (Option Check) 160
  claims : Vector (Option Claim) 64
  entries : Vector EntryCell 48
  freeList : List Nat
  sendQueue : List Nat
  alState : AlState
  staleReplies : Nat
  journal : Journal
  exceptions : List ExceptionEntry
  exceptionNumber : BitVec 16
  exceptionsLost : Nat
  port : Port
  memory : Memory
  clockUnit : ClockUnit
  control : Control
  pfail : Bool
  openBytes : Nat
  deriving DecidableEq, Repr

/-- The state of the model: the part, and the commands that wait, first in, first out. -/
structure State extends Part where
  pending : List Instr
  deriving DecidableEq, Repr

/-- Why the part would stop. The manual lets nothing stop the FS420: every event it describes leaves the part in a next
state, and a memory fault, a gateway error or a refused request is an outcome inside that state. So there is no
constructor. -/
inductive Fault
  deriving DecidableEq, Repr

/-- Why a command would be turned away without a meaning. -/
inductive Refusal
  /-- Raised by `exec` for a command that has no meaning yet. Safe: the run stops. No arm of `exec` raises it now. -/
  | notModelled (mnemonic : String)
  deriving DecidableEq, Repr

/-! ### Reset (R15, R16, R27, R92, R107, R127, R151, R153, R164, R168 to R170, R173, R179) -/

/-- The built-in configuration (R181, R182). -/
def Venue.defaults : Venue where
  inclusive := false
  rates := tabulate 8 fun _ => 0
  serviceRate := 0
  serviceThreshold := 0
  cashUnit := 1
  tipCeiling := 40000
  claimLease := 120
  authTimeout := 15
  lateWindow := 120
  aliveTimeout := 5
  settleInterval := 10
  duplicateWindow := 300
  dwellThreshold := 600
  floorLimit := 5000
  offlineCeiling := 200000
  window := 8
  drainShare := 2
  highWater := 384
  tickDivisor := 24000
  permits := BitVec.allOnes 96

/-- A link after reset while its partner drives RDY_IN to `level` (R15). -/
def LinkState.initial (level : Bool) : LinkState where
  receiver := .hunt false
  inbound := []
  outbound := []
  sending := false
  rdyIn := level
  crcErrors := 0
  framingErrors := 0
  overruns := 0
  advisoriesLost := 0

/-- A roster entry after reset (R16). -/
def RosterEntry.initial : RosterEntry where
  state := .unseen
  heard := none
  held := none
  inFlight := false
  claimCount := 0

/-- The journal after reset (R153). -/
def Journal.initial : Journal where
  mirror := tabulate 512 fun _ => none
  head := 0
  tail := 0
  nextSequence := 1
  occupied := 0
  deferredTotal := 0
  highWater := false
  locked := false
  eraseAgain := false

/-- The Memory Port after reset (R149, R151). -/
def Port.initial : Port where
  queue := []
  waiting := []
  transfersDone := 0
  transferStart := 0
  snapshot := none

/-- The Service Clock Unit after reset (R168, R169, R170, R173, R175). The tick counter's 0 is log entry 1's, DESIGN CHOICE. -/
def ClockUnit.initial : ClockUnit where
  clock := 0
  tickCounter := 0
  divisor := Config.divisorBuiltIn
  nextDivisor := none
  second := 0
  secondsDue := 0
  deadlines := []
  calibration := .idle
  calFail := false

/-- The controller while RESET_N is low (R179). The straps' value before they are sampled is log entry 1's, DESIGN CHOICE. -/
def Control.initial : Control where
  startup := .reset
  straps := 0
  venue := Venue.defaults
  source := .defaults
  clamped := false
  defaulted := false
  restorePartial := false
  imageStatus := .unread
  download := none
  restarting := false
  replyAhead := 0
  restored := 0
  rejected := 0
  unknowns := 0

/-- Every block in its reset values, with the memory, the input pins and the open-byte count given: a reset changes none
of these. -/
def Part.initial (memory : Memory) (rdyIn : Link → Bool) (pfail : Bool) (openBytes : Nat) : Part where
  links :=
    { tl0 := .initial (rdyIn (.tl .tl0)), tl1 := .initial (rdyIn (.tl .tl1)), tl2 := .initial (rdyIn (.tl .tl2)),
      tl3 := .initial (rdyIn (.tl .tl3)), ol := .initial (rdyIn .ol), al := .initial (rdyIn .al) }
  noticeList := []
  noticeSequence := 0
  noticesLost := 0
  kept := none
  roster := tabulate 96 fun _ => .initial
  holdCounter := 0
  reheard := 0
  checks := tabulate 160 fun _ => none
  claims := tabulate 64 fun _ => none
  entries := tabulate 48 fun _ => { generation := 0, use := none }
  freeList := List.range 48
  sendQueue := []
  alState := .down
  staleReplies := 0
  journal := .initial
  exceptions := []
  exceptionNumber := 0
  exceptionsLost := 0
  port := .initial
  memory := memory
  clockUnit := .initial
  control := .initial
  pfail := pfail
  openBytes := openBytes

/-- The machine right after reset: RESET_N is low (R179), every block holds its reset values, the memory is erased
throughout (DESIGN CHOICE, log entry 1), and no command waits. -/
def State.reset : State :=
  { toPart := Part.initial [] (fun _ => false) false 0, pending := [] }

end Sys2Proof.Machine
end

