-- ==== Sys2Proof/Machine/Bytes.lean ====
section
/-! DEFINITION. Machine/Bytes.lean: numbers as little-endian bytes (00, "Byte order"), the CRC-16 of frames, journal slots
and images (01, "Frame format"), and times compared across the clock's wrap (R169). -/

namespace Sys2Proof.Machine

/-- The low `width` bytes of `n`, least significant first. -/
def leBytes : Nat → Nat → List Byte
  | 0, _ => []
  | width + 1, n => BitVec.ofNat 8 n :: leBytes width (n / 256)

/-- The number whose little-endian bytes are given. -/
def leValue : List Byte → Nat
  | [] => 0
  | b :: rest => b.toNat + 256 * leValue rest

/-- A signed number in `width` bytes, two's complement, least significant first. -/
def leSigned (width : Nat) (z : Int) : List Byte :=
  leBytes width (z % (256 ^ width : Nat)).toNat

/-- The signed number that the `width`-byte number `n` stands for in two's complement. -/
def signedValue (width n : Nat) : Int :=
  if 2 * n < 256 ^ width then n else (n : Int) - (256 ^ width : Nat)

/-- The `width`-byte number at offset `offset` of `bytes`; bytes beyond the end read as nothing. -/
def fieldAt (bytes : List Byte) (offset width : Nat) : Nat :=
  leValue ((bytes.drop offset).take width)

/-- The `width` bytes at offset `offset` of `bytes`. -/
def bytesAt (bytes : List Byte) (offset width : Nat) : List Byte :=
  (bytes.drop offset).take width

/-- A time as the 4 bytes a frame or a journal slot carries. -/
def timeBytes (t : Time) : List Byte := leBytes 4 t.toNat

/-- A time that may be absent: 0 stands for an absent one. -/
def stampBytes (t : Option Time) : List Byte := timeBytes (t.getD 0)

/-- A truth value as the byte 0 or 1. -/
def flagByte (b : Bool) : Byte := if b then 1 else 0

/-- One bit of the CRC with polynomial 0x1021, most significant bit first. -/
def crcBit (c : BitVec 16) : BitVec 16 :=
  if c.msb then (c <<< 1) ^^^ 0x1021#16 else c <<< 1

/-- One byte of the CRC. -/
def crcByte (c : BitVec 16) (b : Byte) : BitVec 16 :=
  crcBit (crcBit (crcBit (crcBit (crcBit (crcBit (crcBit (crcBit (c ^^^ (b.setWidth 16 <<< 8)))))))))

/-- The CRC-16 with initial value 0xFFFF, no reflection and no final inversion (01, "Frame format"). -/
def crc16 (bytes : List Byte) : BitVec 16 := bytes.foldl crcByte 0xFFFF#16

/-- The bytes of a frame as they stand on the wire (01, "Frame format"). -/
def frameBytes (f : Frame) : List Byte :=
  let covered := leBytes 2 (6 + f.body.length) ++ [f.kind, f.tag] ++ leBytes 2 f.terminal.toNat ++ f.body
  0xA5#8 :: covered ++ leBytes 2 (crc16 covered).toNat

/-- A time is reached at `now` when their difference, read as a signed 32-bit number, is 0 or less (R169). -/
def reached (now due : Time) : Bool := (due - now).toInt ≤ 0

/-- A time is later than another when their difference, read as a signed 32-bit number, is above 0 (R169). -/
def later (a b : Time) : Bool := 0 < (a - b).toInt

/-- Milliseconds as an interval of the service clock. -/
def milliseconds (n : Nat) : Time := BitVec.ofNat 32 n

/-- Seconds as an interval of the service clock (00, "Time"). -/
def seconds (n : Nat) : Time := BitVec.ofNat 32 (1000 * n)

/-- A saturating count: one more, but no more than `most` (R13). -/
def saturate (most n : Nat) : Nat := if n < most then n + 1 else n

end Sys2Proof.Machine
end

