-- ==== Sys2Proof/Machine/Memory.lean ====
section
/-! DEFINITION. Machine/Memory.lean: the attached nonvolatile memory as a list of (address, byte) pairs in one canonical
form: addresses strictly rising, and no pair equal to what an unlisted address reads as. -/

namespace Sys2Proof.Machine

/-- What an address that is not listed reads as: an erased byte (R150: "erased bytes read as 0xFF"). -/
def Memory.erased : Byte := 0xFF#8

/-- The byte at an address. -/
def Memory.read : Memory → Nat → Byte
  | [], _ => Memory.erased
  | (a, b) :: rest, address => if a = address then b else Memory.read rest address

/-- The memory with one byte written: the pair is put in its place, replaced, or taken out when the byte is an erased
one. -/
def Memory.write : Memory → Nat → Byte → Memory
  | [], address, b => if b = Memory.erased then [] else [(address, b)]
  | (a, c) :: rest, address, b =>
    if address < a then
      (if b = Memory.erased then (a, c) :: rest else (address, b) :: (a, c) :: rest)
    else if address = a then
      (if b = Memory.erased then rest else (a, b) :: rest)
    else (a, c) :: Memory.write rest address b

/-- The memory with bytes written from an address on. -/
def Memory.writeAll : Memory → Nat → List Byte → Memory
  | m, _, [] => m
  | m, address, b :: rest => Memory.writeAll (m.write address b) (address + 1) rest

/-- The `count` bytes from an address on. -/
def Memory.readAll (m : Memory) (address : Nat) : Nat → List Byte
  | 0 => []
  | count + 1 => m.read address :: m.readAll (address + 1) count

/-- The canonical form: every address is at least `least`, addresses strictly rise, and no listed byte is an erased one. -/
def Memory.wfFrom : Nat → Memory → Bool
  | _, [] => true
  | least, (a, b) :: rest => decide (least ≤ a) && decide (b ≠ Memory.erased) && Memory.wfFrom (a + 1) rest

/-- The canonical form of the whole memory. -/
def Memory.wf (m : Memory) : Bool := m.wfFrom 0

end Sys2Proof.Machine
end

