-- ==== Sys2Proof/Machine/Tables.lean ====
section
/-! DEFINITION. Machine/Tables.lean: reading and writing the part's fixed tables by index, and its six links by name. -/

namespace Sys2Proof.Machine

/-- The records in use of a list of records, each with its index, the first record having index `i`. -/
def inUseFrom {α : Type} : Nat → List (Option α) → List (Nat × α)
  | _, [] => []
  | i, none :: rest => inUseFrom (i + 1) rest
  | i, some a :: rest => (i, a) :: inUseFrom (i + 1) rest

/-- The records in use of a table, each with its index, lowest index first. -/
def inUse {α : Type} {n : Nat} (table : Vector (Option α) n) : List (Nat × α) :=
  inUseFrom 0 table.toList

/-- The lowest index of a free record in a list of records, the first having index `i`. -/
def firstFreeFrom {α : Type} : Nat → List (Option α) → Option Nat
  | _, [] => none
  | i, none :: _ => some i
  | i, some _ :: rest => firstFreeFrom (i + 1) rest

/-- The lowest index of a free record. -/
def firstFree {α : Type} {n : Nat} (table : Vector (Option α) n) : Option Nat :=
  firstFreeFrom 0 table.toList

/-- The record at an index, if one is in use there. -/
def recordAt {α : Type} {n : Nat} (table : Vector (Option α) n) (i : Nat) : Option α :=
  table[i]?.join

/-- The state of one link. -/
def Links.get (ls : Links) : Link → LinkState
  | .tl .tl0 => ls.tl0
  | .tl .tl1 => ls.tl1
  | .tl .tl2 => ls.tl2
  | .tl .tl3 => ls.tl3
  | .ol => ls.ol
  | .al => ls.al

/-- The links with one link's state replaced. -/
def Links.set (ls : Links) (l : Link) (x : LinkState) : Links :=
  match l with
  | .tl .tl0 => { ls with tl0 := x }
  | .tl .tl1 => { ls with tl1 := x }
  | .tl .tl2 => { ls with tl2 := x }
  | .tl .tl3 => { ls with tl3 := x }
  | .ol => { ls with ol := x }
  | .al => { ls with al := x }

/-- The state of link `l`. -/
def Part.link (p : Part) (l : Link) : LinkState := p.links.get l

/-- The part with link `l` in state `x`. -/
def Part.setLink (p : Part) (l : Link) (x : LinkState) : Part := { p with links := p.links.set l x }

/-- The roster index of terminal `n`; a number outside 1..96 has none. -/
def rosterIndex (n : Nat) : Nat := if n = 0 then Config.terminals else n - 1

/-- The roster entry of terminal `n` (R16). -/
def Part.terminal (p : Part) (n : Nat) : RosterEntry := p.roster[rosterIndex n]?.getD .initial

/-- The part with terminal `n`'s roster entry replaced. -/
def Part.setTerminal (p : Part) (n : Nat) (e : RosterEntry) : Part :=
  { p with roster := p.roster.setIfInBounds (rosterIndex n) e }

/-- The part with check slot `i` replaced: in use, or free. -/
def Part.setCheck (p : Part) (i : Nat) (c : Option Check) : Part :=
  { p with checks := p.checks.setIfInBounds i c }

/-- The check in slot `i`. -/
def Part.checkAt (p : Part) (i : Nat) : Option Check := recordAt p.checks i

/-- The slot in use that holds a check number, with its check (R27). -/
def Part.findCheck (p : Part) (number : Nat) : Option (Nat × Check) :=
  (inUse p.checks).find? fun x => x.2.number == number

/-- The part with claim record `i` replaced: in use, or free. -/
def Part.setClaim (p : Part) (i : Nat) (c : Option Claim) : Part :=
  { p with claims := p.claims.setIfInBounds i c }

/-- The claim in record `i`. -/
def Part.claimAt (p : Part) (i : Nat) : Option Claim := recordAt p.claims i

/-- The authorization entry of index `i`. -/
def Part.entryCell (p : Part) (i : Nat) : EntryCell := p.entries[i]?.getD { generation := 0, use := none }

/-- The part with authorization entry `i` replaced. -/
def Part.setEntry (p : Part) (i : Nat) (e : EntryCell) : Part :=
  { p with entries := p.entries.setIfInBounds i e }

/-- The part with its journal replaced. -/
def Part.setJournal (p : Part) (j : Journal) : Part := { p with journal := j }

/-- The part with its Memory Port replaced. -/
def Part.setPort (p : Part) (q : Port) : Part := { p with port := q }

/-- The part with its Service Clock Unit replaced. -/
def Part.setClock (p : Part) (u : ClockUnit) : Part := { p with clockUnit := u }

/-- The part with its controller replaced. -/
def Part.setControl (p : Part) (c : Control) : Part := { p with control := c }

/-- The service clock. -/
def Part.now (p : Part) : Time := p.clockUnit.clock

/-- The configuration in force. -/
def Part.venue (p : Part) : Venue := p.control.venue

/-- The mirror entry of a journal slot; none is EMPTY. -/
def Journal.slotAt (j : Journal) (i : Nat) : Option Slot := recordAt j.mirror i

/-- The journal with the mirror entry of a slot replaced. -/
def Journal.setSlot (j : Journal) (i : Nat) (s : Option Slot) : Journal :=
  { j with mirror := j.mirror.setIfInBounds i s }

/-- The journal slot after a slot, wrapping from 511 to 0 (R153). -/
def nextSlot (i : Nat) : Nat := (i + 1) % Config.journalSlots

end Sys2Proof.Machine
end

