-- ==== Sys2Proof/Machine/Flags.lean ====
section
/-! DEFINITION. Machine/Flags.lean: the lines, flags, counts and states that the manual defines from what the part holds:
RDY_OUT and ATTN, the STATUS flags and occupancies, a tender's group, a check's anchored flag and flight count, a share's
remaining amount and state. -/

namespace Sys2Proof.Machine

/-! ### Start-up state -/

/-- The part runs: it is out of reset and not HALTED. -/
def Startup.running : Startup → Bool
  | .reset | .halted => false
  | .loading | .scanning | .restoring | .ready | .saving => true

/-- Frames are taken from inbound queues (R6). -/
def Startup.takesFrames : Startup → Bool
  | .loading | .scanning | .restoring | .ready => true
  | .reset | .saving | .halted => false

/-- The start-up state as STATUS codes it (R14); STATUS is taken in these four states alone. -/
def Startup.code : Startup → Nat
  | .loading => 1
  | .scanning => 2
  | .restoring => 3
  | .ready => 4
  | .reset | .saving | .halted => 0

/-- RDY_OUT of link `l`: asserted or not (R1). -/
def Part.rdyOut (p : Part) (l : Link) : Bool :=
  let space := decide ((p.link l).inbound.length < Config.inboundPlaces)
  match p.control.startup, l with
  | .loading, .ol | .scanning, .ol | .restoring, .ol => space
  | .ready, _ => space
  | _, _ => false

/-- The kind code of a NOTICE frame. -/
def noticeKind : Byte := 0x04#8

/-- ATTN: a notice waits in the list or in the OL outbound queue (R12). -/
def Part.attn (p : Part) : Bool :=
  !p.noticeList.isEmpty || (p.link .ol).outbound.any fun f => f.kind == noticeKind

/-- The AL state as frames code it (R14, R133). -/
def AlState.code : AlState → Nat
  | .down => 0
  | .settling => 1
  | .up => 2

/-- The flags byte of STATUS and START_COMPLETE (R14, R184). -/
def Part.flagsByte (p : Part) : Byte :=
  BitVec.ofNat 8 (p.control.clamped.toNat + 2 * p.control.defaulted.toNat + 4 * p.control.restorePartial.toNat
    + 8 * p.clockUnit.calFail.toNat)

/-! ### Tenders (R108, R109) -/

/-- AUTHORIZING or DEFERRING. -/
def TenderState.inFlight : TenderState → Bool
  | .authorizing | .deferring _ _ => true
  | .approved _ | .deferred _ | .declined _ | .failed | .cashAccepted | .reversed | .unknown | .lateDeclined => false

/-- APPROVED, DEFERRED, CASH_ACCEPTED or LATE_DECLINED. -/
def TenderState.accepted : TenderState → Bool
  | .approved _ | .deferred _ | .cashAccepted | .lateDeclined => true
  | .authorizing | .deferring _ _ | .declined _ | .failed | .reversed | .unknown => false

/-- The state's code in frames and images (R108). -/
def TenderState.code : TenderState → Nat
  | .authorizing => 0
  | .deferring _ _ => 1
  | .approved _ => 2
  | .deferred _ => 3
  | .declined _ => 4
  | .failed => 5
  | .cashAccepted => 6
  | .reversed => 7
  | .unknown => 8
  | .lateDeclined => 9

/-- Six bytes of zeros, reported for an approval code that is absent. -/
def noCode : List Byte := [0, 0, 0, 0, 0, 0]

/-- The approval code an outcome or TENDER_STATUS shows: zeros unless APPROVED (R113, R123). -/
def TenderState.shownCode : TenderState → List Byte
  | .approved code => code
  | _ => noCode

/-- The decline reason an outcome or TENDER_STATUS shows: 0 unless DECLINED (R113, R123). -/
def TenderState.shownReason : TenderState → Nat
  | .declined reason => reason
  | _ => 0

/-- The approval code a tender holds: the tender's, or its late mark's (R107, R185, R189). -/
def TenderState.keptCode : TenderState → List Byte
  | .approved code => code
  | .deferring _ (.confirmed code) => code
  | _ => noCode

/-- The decline reason a tender holds: the tender's, or its late mark's (R107, R185, R189). -/
def TenderState.keptReason : TenderState → Nat
  | .declined reason => reason
  | .deferring _ (.declined reason) => reason
  | _ => 0

/-- The journal slot a tender's state names, in DEFERRING and DEFERRED (R107). -/
def TenderState.slot : TenderState → Option Nat
  | .deferring slot _ => some slot
  | .deferred slot => some slot
  | _ => none

/-- The kind code of a tender (R108). -/
def Payment.code : Payment → Nat
  | .card _ _ => 0
  | .cash _ _ _ => 1

/-- The tip; a cash tender has none, and 0 stands for it wherever a tip is counted (R107) or reported (R49; in TENDER_STATUS
DESIGN CHOICE, log entry 46). -/
def Payment.tip : Payment → Nat
  | .card tip _ => tip
  | .cash _ _ _ => 0

/-- The card suffix; 0 for cash. -/
def Payment.suffix : Payment → Nat
  | .card _ suffix => suffix
  | .cash _ _ _ => 0

/-- The tendered amount; 0 for a card. -/
def Payment.tendered : Payment → Nat
  | .card _ _ => 0
  | .cash tendered _ _ => tendered

/-- The change; 0 for a card. -/
def Payment.change : Payment → Nat
  | .card _ _ => 0
  | .cash _ change _ => change

/-- The rounding; 0 for a card. -/
def Payment.rounding : Payment → Int
  | .card _ _ => 0
  | .cash _ _ rounding => rounding

/-- The auth amount of a tender: amount plus tip (R88, R107). -/
def Tender.authAmount (t : Tender) : Nat := t.amount + t.payment.tip

/-! ### Shares (R53) -/

/-- The state of a share (R53). -/
inductive ShareState
  | unpaid | partPaid | paid
  deriving DecidableEq, Repr

/-- The code of a share state (R49). -/
def ShareState.code : ShareState → Nat
  | .unpaid => 0
  | .partPaid => 1
  | .paid => 2

/-- The remaining amount: due plus cash rounding minus applied (R53). -/
def Share.remaining (s : Share) : Int := s.due + s.rounding - s.applied

/-- The state that follows from the applied and remaining amounts (R53). -/
def Share.state (s : Share) : ShareState :=
  if s.remaining = 0 then .paid else if s.applied = 0 then .unpaid else .partPaid

/-- The share is PAID. -/
def Share.paid (s : Share) : Bool := decide (s.remaining = 0)

/-! ### Checks (R28, R31, R32) -/

/-- A check state's code (R47). -/
def CheckState.code : CheckState → Nat
  | .opened => 0
  | .presented => 1
  | .settling => 2
  | .settled => 3

/-- A plan kind's code (R55). -/
def PlanKind.code : PlanKind → Nat
  | .none => 0
  | .even => 1
  | .byItem => 2
  | .amount => 3
  | .fixed => 4

/-- The anchored flag: OPEN and PRESENTED are the states with anchored = no (R31). -/
def CheckState.anchored : CheckState → Bool
  | .opened | .presented => false
  | .settling | .settled => true

/-- The anchored flag of a check (R31). -/
def Check.anchored (c : Check) : Bool := c.state.anchored

/-- The dues no longer follow the lines: the check is anchored, or stands under FIXED, as a restored check that is not anchored can
(R36, R52, R62; that such a check is charged by R36 and not worked out again by R35 is log entry 57, DEDUCED). -/
def Check.frozen (c : Check) : Bool := c.anchored || decide (c.plan.kind = .fixed)

/-- The flight count: the tenders that are AUTHORIZING or DEFERRING (R32). -/
def Check.flight (c : Check) : Nat := c.tenders.countP fun t => t.state.inFlight

/-- A share record that no list reports (R52). -/
def Share.blank (revision : BitVec 16) : Share where
  due := 0
  preTax := 0
  portions := none
  applied := 0
  tips := 0
  rounding := 0
  revision := revision

/-- The share record of index `k`, counted from 1. -/
def Check.share (c : Check) (k : Nat) : Share :=
  if k = 0 then .blank 0 else c.shares[k - 1]?.getD (.blank 0)

/-- The check with the share record of index `k` replaced. -/
def Check.setShare (c : Check) (k : Nat) (s : Share) : Check :=
  if k = 0 then c else { c with shares := c.shares.setIfInBounds (k - 1) s }

/-- The share indices of the share list, 1 to n (R52). -/
def Check.shareIndices (c : Check) : List Nat := List.range' 1 c.plan.count

/-- Every share of the share list is PAID. -/
def Check.allPaid (c : Check) : Bool := c.shareIndices.all fun k => (c.share k).paid

/-- The tender with an id (R108). -/
def Check.tender (c : Check) (id : Nat) : Option Tender := c.tenders.find? fun t => t.id == id

/-- The check with the tender of an id changed. -/
def Check.updateTender (c : Check) (id : Nat) (f : Tender → Tender) : Check :=
  { c with tenders := c.tenders.map fun t => if t.id = id then f t else t }

/-- The share has an accepted tender (R36). -/
def Check.hasAccepted (c : Check) (k : Nat) : Bool :=
  c.tenders.any fun t => t.share == k && t.state.accepted

/-- The open share of an anchored check: the highest-indexed share that has no accepted tender (R36). -/
def Check.openShare (c : Check) : Option Nat :=
  c.shareIndices.reverse.find? fun k => !c.hasAccepted k

/-! ### Pools and occupancies (R14, R29, R107, R153) -/

/-- Check slots in use. -/
def Part.checksInUse (p : Part) : Nat := (inUse p.checks).length

/-- Line records in use (R29). -/
def Part.linesInUse (p : Part) : Nat := ((inUse p.checks).map fun x => x.2.lines.length).sum

/-- Tender records in use (R107). -/
def Part.tendersInUse (p : Part) : Nat := ((inUse p.checks).map fun x => x.2.tenders.length).sum

/-- Claim records in use (R92). -/
def Part.claimsInUse (p : Part) : Nat := (inUse p.claims).length

/-- Authorization entries that are not FREE (R127). -/
def Part.entriesInUse (p : Part) : Nat := p.entries.toList.countP fun e => e.use.isSome

/-- Authorization entries that are SENT, of those whose kind passes `ofKind` (R134, R136). -/
def Part.entriesSent (p : Part) (ofKind : EntryKind → Bool) : Nat :=
  p.entries.toList.countP fun e => e.use.any fun x => decide (x.state = .sent) && ofKind x.kind

/-- An entry kind is DRAIN. -/
def EntryKind.isDrain : EntryKind → Bool
  | .drain _ _ => true
  | .live _ _ | .reversal _ _ _ => false

/-- The mirror entries that are PENDING (R161). -/
def Journal.pendingCount (j : Journal) : Nat :=
  (inUse j.mirror).countP fun x => decide (x.2.state = .pending)

end Sys2Proof.Machine
end

