-- ==== Sys2Proof/Machine/Operands.lean ====
section
/-! DEFINITION. Machine/Operands.lean: the kind codes of frames and the set each link accepts (01, "Message kinds"), the
result codes (R7), and how a request's fields are read from its body. -/

namespace Sys2Proof.Machine

/-- The kind codes of 01, "Message kinds". -/
def kindReply : Byte := 0x01#8
def kindShareChanged : Byte := 0x02#8
def kindClaimLost : Byte := 0x03#8
def kindLookup : Byte := 0x10#8
def kindClaim : Byte := 0x11#8
def kindRelease : Byte := 0x12#8
def kindPresent : Byte := 0x13#8
def kindViewShare : Byte := 0x14#8
def kindSetPlan : Byte := 0x15#8
def kindAssignLine : Byte := 0x16#8
def kindPayCard : Byte := 0x17#8
def kindPayCash : Byte := 0x18#8
def kindVoidTender : Byte := 0x19#8
def kindTenderStatus : Byte := 0x1A#8
def kindOpenCheck : Byte := 0x30#8
def kindAddLine : Byte := 0x31#8
def kindVoidLine : Byte := 0x32#8
def kindSetCovers : Byte := 0x33#8
def kindMoveCheck : Byte := 0x34#8
def kindCloseCheck : Byte := 0x35#8
def kindDiscardCheck : Byte := 0x36#8
def kindReadCheck : Byte := 0x37#8
def kindResolveTender : Byte := 0x38#8
def kindTerminalControl : Byte := 0x39#8
def kindReadExceptions : Byte := 0x3A#8
def kindClearException : Byte := 0x3B#8
def kindStatus : Byte := 0x3C#8
def kindCalibrate : Byte := 0x3D#8
def kindRestart : Byte := 0x3E#8
def kindConfigBegin : Byte := 0x3F#8
def kindConfigRecord : Byte := 0x40#8
def kindConfigEnd : Byte := 0x41#8
def kindAuthRequest : Byte := 0x50#8
def kindReversalRequest : Byte := 0x51#8
def kindSubmitDeferred : Byte := 0x52#8
def kindAuthReply : Byte := 0x58#8
def kindReversalReply : Byte := 0x59#8
def kindSubmitReply : Byte := 0x5A#8
def kindGatewayError : Byte := 0x5B#8
def kindLinkAlive : Byte := 0x5C#8

/-- The kinds a link accepts (01, "Message kinds"; R4). -/
def Link.accepts : Link → List Byte
  | .tl _ =>
    [kindLookup, kindClaim, kindRelease, kindPresent, kindViewShare, kindSetPlan, kindAssignLine, kindPayCard,
      kindPayCash, kindVoidTender, kindTenderStatus]
  | .ol =>
    [kindPresent, kindOpenCheck, kindAddLine, kindVoidLine, kindSetCovers, kindMoveCheck, kindCloseCheck,
      kindDiscardCheck, kindReadCheck, kindResolveTender, kindTerminalControl, kindReadExceptions, kindClearException,
      kindStatus, kindCalibrate, kindRestart, kindConfigBegin, kindConfigRecord, kindConfigEnd]
  | .al => [kindAuthReply, kindReversalReply, kindSubmitReply, kindGatewayError, kindLinkAlive]

/-- The refusals of R7, HELD with the terminal it names. -/
inductive Result
  | badKind | badField | notReady
  | unknownTerminal | suspect | barred
  | noCheck | checkExists | tableFull | poolFull | lineLimit | limit
  | negativeBase | settling | anchored | planConflict | notSettled | hasTenders
  | held (holder : Nat) | notClaimed | claimLimit | claimsFull
  | stale | sharePaid | overTender | tipLimit | tenderFull | noTender | notVoidable
  | busy | busyAuth
  deriving DecidableEq, Repr

/-- The result codes (R7). -/
def Result.code : Result → Nat
  | .badKind => 0x01
  | .badField => 0x02
  | .notReady => 0x03
  | .unknownTerminal => 0x10
  | .suspect => 0x11
  | .barred => 0x12
  | .noCheck => 0x20
  | .checkExists => 0x21
  | .tableFull => 0x22
  | .poolFull => 0x23
  | .lineLimit => 0x24
  | .limit => 0x25
  | .negativeBase => 0x30
  | .settling => 0x31
  | .anchored => 0x32
  | .planConflict => 0x33
  | .notSettled => 0x34
  | .hasTenders => 0x35
  | .held _ => 0x40
  | .notClaimed => 0x41
  | .claimLimit => 0x42
  | .claimsFull => 0x43
  | .stale => 0x50
  | .sharePaid => 0x51
  | .overTender => 0x52
  | .tipLimit => 0x53
  | .tenderFull => 0x54
  | .noTender => 0x55
  | .notVoidable => 0x56
  | .busy => 0x60
  | .busyAuth => 0x61

/-- The body of a refusal: the code, and for HELD the holder (R7). -/
def Result.body : Result → List Byte
  | .held holder => leBytes 1 0x40 ++ leBytes 2 holder
  | r => leBytes 1 r.code

/-- What handling a request comes to: a refusal, or the part it leaves with the fields that follow OK in its immediate
reply; no fields at all when the outcome comes later (R7). -/
abbrev Handled := Except Result (Part × Option (List Byte))

/-- A check of a request: go on when it holds, and refuse otherwise. -/
def ensure (holds : Bool) (r : Result) : Except Result Unit :=
  if holds then .ok () else .error r

/-- What is present, or a refusal. -/
def orRefuse {α : Type} (x : Option α) (r : Result) : Except Result α :=
  match x with
  | some a => .ok a
  | none => .error r

/-- A number lies in a range, both ends included (00, "Sizes and ranges"). -/
def within (low high n : Nat) : Bool := decide (low ≤ n) && decide (n ≤ high)

/-- The terminal number a frame carries. -/
def Frame.sender (f : Frame) : Nat := f.terminal.toNat

/-- The body has this length. -/
def Frame.hasLength (f : Frame) (n : Nat) : Bool := decide (f.body.length = n)

/-- The `width`-byte field at an offset of the body. -/
def Frame.field (f : Frame) (offset width : Nat) : Nat := fieldAt f.body offset width

/-- The signed `width`-byte field at an offset of the body. -/
def Frame.signedField (f : Frame) (offset width : Nat) : Int := signedValue width (fieldAt f.body offset width)

/-- The body of SET_PLAN has the length its own plan kind and count call for (R58). -/
def Frame.setPlanLength (f : Frame) : Bool :=
  let n := f.field 3 1
  decide (4 ≤ f.body.length) &&
    (if f.field 2 1 = 3 then decide (f.body.length = 4 * n) else decide (f.body.length = 4))

/-- The body of PAY_CARD has the length its own token length calls for (R110). -/
def Frame.payCardLength (f : Frame) : Bool :=
  decide (18 ≤ f.body.length) && decide (f.body.length = 18 + f.field 17 1)

/-- The reply frame to a request: it echoes the request's tag and its terminal field, also on OL, where R7 names both the
request's field and 0 and a request's own field may be another number (R7; DESIGN CHOICE, log entry 45). -/
def replyFrame (request : Frame) (body : List Byte) : Frame where
  kind := kindReply
  tag := request.tag
  terminal := request.terminal
  body := body

end Sys2Proof.Machine
end

