-- ==== Sys2Proof/Machine/Arith.lean ====
section
/-! DEFINITION. Machine/Arith.lean: the Settlement Arithmetic Unit (05). It keeps no state: every figure is a function of
what the asking block gives it. -/

namespace Sys2Proof.Machine

/-! ### Quotients (00, "Round half up"; R68) -/

/-- Round half up of n / d, for d above 0. -/
def roundHalfUp (n d : Nat) : Nat :=
  let q := n / d
  let r := n - q * d
  if d ≤ 2 * r then q + 1 else q

/-! ### Lines, bases and the check total (R69 to R74) -/

/-- The amount of a line (R69). -/
def lineAmount (price : Int) (quantity : Nat) : Int := price * quantity

/-- The base of a class: the sum of the amounts of its LIVE lines (R70). -/
def classBase (lines : List Line) (cls : Nat) : Int :=
  ((lines.filter fun l => l.live && l.cls == cls).map fun l => l.amount).sum

/-- A class base is below 0 (R70). -/
def negativeBase (lines : List Line) : Bool := (List.range 8).any fun c => decide (classBase lines c < 0)

/-- The tax of a class (R71, R72). -/
def classTax (v : Venue) (base cls : Nat) : Nat :=
  let rate := v.rates[cls]?.getD 0
  if v.inclusive then roundHalfUp (base * rate) (100000 + rate) else roundHalfUp (base * rate) 100000

/-- The service charge (R73). -/
def serviceCharge (v : Venue) (covers itemNet : Nat) : Nat :=
  if v.serviceThreshold = 0 then 0
  else if covers < v.serviceThreshold then 0
  else roundHalfUp (itemNet * v.serviceRate) 100000

/-- The sum of eight class figures. -/
def sumClasses (figures : Vector Nat 8) : Nat := figures.toList.sum

/-- The class bases, item net, class taxes, service charge and total worked out from the lines and the covers (R70 to
R74), where no class base is below 0. -/
def workTotals (v : Venue) (covers : Nat) (lines : List Line) : Totals :=
  let bases := tabulate 8 fun c => (classBase lines c).toNat
  let itemNet := sumClasses bases
  let taxes := tabulate 8 fun c => classTax v ((classBase lines c).toNat) c
  let service := serviceCharge v covers itemNet
  { bases := bases, itemNet := itemNet, taxes := taxes, service := service,
    total := if v.inclusive then itemNet + service else itemNet + sumClasses taxes + service }

/-- A candidate class base, the item net or the total is over the limit (R34, R70, R74). -/
def Totals.overLimit (t : Totals) : Bool :=
  t.bases.toList.any (fun b => decide (Config.amountMax < b)) || decide (Config.amountMax < t.itemNet)
    || decide (Config.amountMax < t.total)

/-! ### Dues under the rule plans (R75 to R84) -/

/-- What a recomputation gives one share (R56). -/
structure Figures where
  due : Nat
  preTax : Nat
  portions : Option (Vector Nat 8)
  deriving DecidableEq, Repr

/-- The due of share `k` under EVEN (R76). -/
def evenDue (total n k : Nat) : Nat := total / n + (if k ≤ total % n then 1 else 0)

/-- The pre-tax part of a share under EVEN and AMOUNT (R77). -/
def proportion (due itemNet total : Nat) : Nat :=
  if total = 0 then 0 else roundHalfUp (due * itemNet) total

/-- The due of share `k` of `n` under AMOUNT (R78). -/
def amountDue (total : Nat) (given : List Nat) (n k : Nat) : Nat :=
  if k < n then given[k - 1]?.getD 0 else total - given.sum

/-- Share `k` is in a share set. -/
def inSet (set : BitVec 16) (k : Nat) : Bool := decide (1 ≤ k) && set.getLsbD (k - 1)

/-- How many shares of a set have an index below `k`. -/
def rankIn (set : BitVec 16) (k : Nat) : Nat := ((List.range' 1 (k - 1)).filter (inSet set)).length

/-- How many shares a set holds. -/
def setSize (set : BitVec 16) : Nat := rankIn set 17

/-- The set of shares 1 to n. -/
def fullSet (n : Nat) : BitVec 16 := BitVec.ofNat 16 (2 ^ n - 1)

/-- Share `k`'s part of an amount divided among a set: the truncated quotient, and one unit more in the amount's direction
for the lowest-indexed shares (R79). -/
def linePart (amount : Int) (set : BitVec 16) (k : Nat) : Int :=
  if inSet set k then
    let q := amount.tdiv (setSize set)
    let r := amount - (setSize set : Int) * q
    if rankIn set k < r.natAbs then q + r.sign else q
  else 0

/-- The class portion of share `k` in a class (R80). -/
def classPortion (lines : List Line) (cls k : Nat) : Int :=
  ((lines.filter fun l => l.live && l.cls == cls).map fun l => linePart l.amount (l.shareSet.getD 0) k).sum

/-- A class portion of one of the shares 1 to n is below 0 (R80). -/
def negativePortion (lines : List Line) (n : Nat) : Bool :=
  (List.range' 1 n).any fun k => (List.range 8).any fun c => decide (classPortion lines c k < 0)

/-- How many shares rank before the share at index `i` (from 0): a greater key, or an equal key at a lower index (R81). -/
def keyRank (keys : List Nat) (i : Nat) : Nat :=
  let mine := keys[i]?.getD 0
  ((List.range keys.length).filter fun j =>
    let other := keys[j]?.getD 0
    decide (mine < other) || (other == mine && decide (j < i))).length

/-- The allocation of an amount in proportion to weights by largest remainder (R81). B is the sum of the weights, also where
restored share sets leave portions that do not sum to the base or item net that R82 and R83 name (DESIGN CHOICE, log entry 58). -/
def allocate (amount : Nat) (weights : List Nat) : List Nat :=
  let base := weights.sum
  if base = 0 then weights.map fun _ => 0
  else
    let provisional := weights.map fun w => amount * w / base
    let keys := weights.map fun w => amount * w % base
    let leftover := amount - provisional.sum
    provisional.mapIdx fun i t => if keyRank keys i < leftover then t + 1 else t

/-- The class portions of share `k`, none of which is below 0. -/
def portionsOf (lines : List Line) (k : Nat) : Vector Nat 8 := tabulate 8 fun c => (classPortion lines c k).toNat

/-- The tax allocated to each of the shares 1 to n: class by class under EXCLUSIVE, none under INCLUSIVE (R82). B of each
class is the sum of its portions (DESIGN CHOICE, log entry 58, where that is not the class base). -/
def allocatedTaxes (v : Venue) (t : Totals) (lines : List Line) (n : Nat) : List Nat :=
  if v.inclusive then List.replicate n 0
  else
    (List.range 8).foldl
      (fun sums c =>
        List.zipWith (· + ·) sums
          (allocate (t.taxes[c]?.getD 0) ((List.range' 1 n).map fun k => (classPortion lines c k).toNat)))
      (List.replicate n 0)

/-- The service allocated to each of the shares 1 to n (R83). B is the sum of the item-net portions (DESIGN CHOICE, log entry 58,
where that is not the item net). -/
def allocatedService (t : Totals) (lines : List Line) (n : Nat) : List Nat :=
  allocate t.service ((List.range' 1 n).map fun k => sumClasses (portionsOf lines k))

/-- The figures of share `k` under BY_ITEM, given the taxes and the service allocated to each share (R84). -/
def byItemFigures (lines : List Line) (taxes services : List Nat) (k : Nat) : Figures :=
  let portions := portionsOf lines k
  let net := sumClasses portions
  { due := net + taxes[k - 1]?.getD 0 + services[k - 1]?.getD 0, preTax := net, portions := some portions }

/-- A recomputation: the figures of every share of the list under a rule plan, from the check's figures and lines, or the
refusal of R56. A FIXED plan is never recomputed (R62): no request asks for it, and R186 checks its figures apart. -/
def recompute (v : Venue) (plan : Plan) (t : Totals) (lines : List Line) : Except Result (List Figures) :=
  let shares := List.range' 1 plan.count
  match plan.kind with
  | .none => .ok [{ due := t.total, preTax := t.itemNet, portions := none }]
  | .even =>
    .ok (shares.map fun k =>
      let due := evenDue t.total plan.count k
      { due := due, preTax := proportion due t.itemNet t.total, portions := none })
  | .amount =>
    if t.total < plan.given.sum then .error .planConflict
    else
      .ok (shares.map fun k =>
        let due := amountDue t.total plan.given plan.count k
        { due := due, preTax := proportion due t.itemNet t.total, portions := none })
  | .byItem =>
    if negativePortion lines plan.count then .error .negativeBase
    else
      .ok (shares.map (byItemFigures lines (allocatedTaxes v t lines plan.count) (allocatedService t lines plan.count)))
  | .fixed => .error .anchored

/-! ### Tips (R86 to R88) -/

/-- The tip of a card tender by its form: 0 TIP_AMOUNT, 1 TIP_POST_TAX, 2 TIP_PRE_TAX (R86). -/
def workTip (form value amount : Nat) (s : Share) : Nat :=
  match form with
  | 0 => value
  | 1 => roundHalfUp (amount * value) 100000
  | _ => if s.due = 0 then 0 else roundHalfUp (roundHalfUp (amount * s.preTax) s.due * value) 100000

/-- The tip ceiling of a share (R87). -/
def tipCeiling (v : Venue) (s : Share) : Nat := s.due * v.tipCeiling / 100000

/-- The share's tips and a new tip stay within the ceiling; a tip of 0 always does (R87). -/
def tipWithin (v : Venue) (s : Share) (tip : Nat) : Bool :=
  decide (tip = 0) || decide (s.tips + tip ≤ tipCeiling v s)

/-! ### Cash (R89, R90) -/

/-- The cash unit for a share: 1 when the share carries a cash rounding (R89). -/
def unitFor (v : Venue) (s : Share) : Nat := if s.rounding = 0 then v.cashUnit else 1

/-- The rounded remaining amount at a cash unit (R89). -/
def roundedRemaining (remaining unit : Nat) : Nat :=
  let r := remaining % unit
  remaining - r + (if r ≠ 0 ∧ unit ≤ 2 * r then unit else 0)

/-- What the SAU makes of a cash tender (R90). -/
structure CashSplit where
  applied : Nat
  rounding : Int
  change : Nat
  deriving DecidableEq, Repr

/-- The cash tender sorted as final, exact or partial (R90). -/
def sortCash (remaining unit tendered : Nat) : CashSplit :=
  let rounded := roundedRemaining remaining unit
  if rounded ≤ tendered then
    { applied := rounded, rounding := (rounded : Int) - remaining, change := tendered - rounded }
  else if remaining ≤ tendered then { applied := remaining, rounding := 0, change := tendered - remaining }
  else { applied := tendered, rounding := 0, change := 0 }

end Sys2Proof.Machine
end

