-- ==== Sys2Proof/Machine/Ops.lean ====
section
/-! DEFINITION. Machine/Ops.lean: the named operations the blocks share: outbound queues, notices, advisories and late
replies; the deadline list; the exception list; requests to the Memory Port; open bytes. -/

namespace Sys2Proof.Machine

/-! ### Outbound queues (R6, R10) -/

/-- A frame joins the tail of a link's outbound queue, if a place is free, and the transmitter starts it at once when it
is idle and RDY_IN is asserted (R10). -/
def LinkState.enqueue (x : LinkState) (f : Frame) : LinkState :=
  if x.outbound.length < Config.outboundPlaces then
    { x with outbound := x.outbound ++ [f], sending := x.sending || x.rdyIn }
  else x

/-- A frame joins link `l`'s outbound queue. -/
def Part.enqueue (p : Part) (l : Link) (f : Frame) : Part := p.setLink l ((p.link l).enqueue f)

/-- The free places of link `l`'s outbound queue, the place kept for a reply not counted (R6). -/
def Part.freePlaces (p : Part) (l : Link) : Nat :=
  Config.outboundPlaces - (p.link l).outbound.length - (if p.kept = some l then 1 else 0)

/-- The kept place is given up (R6). -/
def Part.releasePlace (p : Part) : Part := { p with kept := none }

/-- An immediate reply takes the place kept for it (R6, R7). -/
def Part.reply (p : Part) (l : Link) (f : Frame) : Part := p.releasePlace.enqueue l f

/-! ### Counters (R13) -/

/-- FRAMING_ERRORS of link `l` increases by one (R2, R4, R130). -/
def Part.countFraming (p : Part) (l : Link) : Part :=
  p.setLink l { p.link l with framingErrors := saturate Config.counterMax (p.link l).framingErrors }

/-- ADVISORIES_LOST of link `l` increases by one (R9). -/
def Part.countAdvisoryLost (p : Part) (l : Link) : Part :=
  p.setLink l { p.link l with advisoriesLost := saturate Config.counterMax (p.link l).advisoriesLost }

/-! ### Notices (R11) -/

/-- The notice kinds' codes (R11). -/
def noticeCheckSettled : Nat := 1
def noticeDwellAlert : Nat := 2
def noticeTerminalSuspect : Nat := 3
def noticeExceptionAdded : Nat := 4
def noticeAlState : Nat := 5
def noticeJournalHigh : Nat := 6
def noticeCalDone : Nat := 7
def noticeCalFail : Nat := 8
def noticeStartComplete : Nat := 9

/-- The frame of a notice produced now (R11). -/
def Part.noticeFrame (p : Part) (kind : Nat) (fields : List Byte) : Frame where
  kind := noticeKind
  tag := p.noticeSequence
  terminal := 0
  body := leBytes 1 kind ++ timeBytes p.now ++ fields

/-- A numbered notice is placed in the OL queue, or in the notice list, or dropped and counted (R11). -/
def Part.placeNotice (p : Part) (f : Frame) : Part :=
  if p.noticeList.isEmpty && decide (2 ≤ p.freePlaces .ol) then p.enqueue .ol f
  else if p.noticeList.length < Config.noticePlaces then { p with noticeList := p.noticeList ++ [f] }
  else { p with noticesLost := saturate Config.lostMax p.noticesLost }

/-- A notice is produced: numbered, then placed (R11). -/
def Part.notice (p : Part) (kind : Nat) (fields : List Byte) : Part :=
  Part.placeNotice { p with noticeSequence := p.noticeSequence + 1 } (p.noticeFrame kind fields)

/-! ### Advisories and late replies (R8, R9, R24) -/

/-- The held replies that wait for terminal link `t` (R8). -/
def Part.heldWaiting (p : Part) (t : Tl) : Nat :=
  p.roster.toList.countP fun e => e.held.isSome && e.heard.any fun h => decide (h.link = t)

/-- An advisory goes to its terminal's current link, or is dropped and counted there (R9). A terminal that was never
heard has no link, and nothing is sent (DESIGN CHOICE, log entry 18). -/
def Part.advise (p : Part) (terminal : Nat) (kind : Byte) (body : List Byte) : Part :=
  match (p.terminal terminal).heard with
  | none => p
  | some h =>
    if p.heldWaiting h.link < p.freePlaces (.tl h.link) then
      p.enqueue (.tl h.link) { kind := kind, tag := 0, terminal := BitVec.ofNat 16 terminal, body := body }
    else p.countAdvisoryLost (.tl h.link)

/-- A late reply enters the held-reply slot of its terminal with the next hold number (R24). -/
def Part.hold (p : Part) (terminal : Nat) (f : Frame) : Part :=
  let e := p.terminal terminal
  Part.setTerminal { p with holdCounter := p.holdCounter + 1 } terminal
    { e with held := some { frame := f, number := p.holdCounter } }

/-- A late reply is sent to the terminal's current link, or held when that link's queue is full (R8). -/
def Part.lateReply (p : Part) (terminal : Nat) (f : Frame) : Part :=
  match (p.terminal terminal).heard with
  | none => p.hold terminal f
  | some h => if 0 < p.freePlaces (.tl h.link) then p.enqueue (.tl h.link) f else p.hold terminal f

/-! ### The deadline list (R170 to R172) -/

/-- A deadline's place: after every entry whose due time is earlier or equal, before every later one (R171). -/
def placeDeadline (d : Deadline) : List Deadline → List Deadline
  | [] => [d]
  | e :: rest => if later e.due d.due then d :: e :: rest else e :: placeDeadline d rest

/-- The part with its deadline list replaced. -/
def Part.setDeadlines (p : Part) (ds : List Deadline) : Part :=
  p.setClock { p.clockUnit with deadlines := ds }

/-- An owner cancels its deadline; one that is not in the list is no change (R171). -/
def Part.cancel (p : Part) (owner : Owner) : Part :=
  p.setDeadlines (p.clockUnit.deadlines.filter fun d => decide (d.owner ≠ owner))

/-- An owner arms a deadline, due one interval from now (R171). -/
def Part.arm (p : Part) (owner : Owner) (interval : Time) : Part :=
  p.setDeadlines (placeDeadline { due := p.now + interval, owner := owner } p.clockUnit.deadlines)

/-- A cancel followed by an arming at the same event (R171). -/
def Part.rearm (p : Part) (owner : Owner) (interval : Time) : Part := (p.cancel owner).arm owner interval

/-- The due time of an owner's deadline, if it has one. -/
def Part.dueTime (p : Part) (owner : Owner) : Option Time :=
  (p.clockUnit.deadlines.find? fun d => d.owner == owner).map fun d => d.due

/-- The owner of the expiry that is to be delivered next: that of the first entry of the list, once its due time is
reached while the clock runs (R169, R172). -/
def Part.dueOwner (p : Part) : Option Owner :=
  match p.clockUnit.deadlines with
  | d :: _ => if p.control.startup.running && reached p.now d.due then some d.owner else none
  | [] => none

/-- The first entry leaves the list at its delivery (R172). -/
def Part.deliver (p : Part) : Part := p.setDeadlines p.clockUnit.deadlines.tail

/-! ### The exception list (R164) -/

/-- The exception kinds' codes (R165). -/
def exceptionDeclinedAfterAccept : Nat := 1
def exceptionDeferredDeclined : Nat := 2
def exceptionReversalUnconfirmed : Nat := 3
def exceptionReversalUnsent : Nat := 4
def exceptionJournalDamaged : Nat := 5
def exceptionMemoryFault : Nat := 6
def exceptionUnknownOutcome : Nat := 7
def exceptionUnwatchedLate : Nat := 8
def exceptionRestoreRejected : Nat := 9

/-- An exception of a kind and detail that carries no other field; its number and stamp are given at its arrival. -/
def ExceptionEntry.plain (kind detail : Nat) : ExceptionEntry where
  number := 0
  kind := kind
  detail := detail
  check := 0
  table := 0
  terminal := 0
  tender := 0
  amount := 0
  sequence := none
  code := none
  stamp := 0
  slotStamp := 0

/-- An exception arrives: it takes the next number and the present time, joins the list or is counted lost, and
EXCEPTION_ADDED is produced (R164). -/
def Part.raise (p : Part) (e : ExceptionEntry) : Part :=
  let stored := decide (p.exceptions.length < Config.exceptionPlaces)
  let q : Part :=
    if stored then
      { p with exceptionNumber := p.exceptionNumber + 1,
               exceptions := p.exceptions ++ [{ e with number := p.exceptionNumber, stamp := p.now }] }
    else
      { p with exceptionNumber := p.exceptionNumber + 1,
               exceptionsLost := saturate Config.lostMax p.exceptionsLost }
  q.notice noticeExceptionAdded
    (leBytes 2 p.exceptionNumber.toNat ++ leBytes 1 e.kind ++ [flagByte stored] ++ leBytes 1 q.exceptions.length
      ++ leBytes 1 q.exceptionsLost)

/-! ### Requests to the Memory Port (R149) -/

/-- An operation is requested: it joins the queue, or the waiting line when the queue holds 16. An operation that finds
the queue empty begins at once (R149, R150). -/
def Port.request (q : Port) (now : Time) (op : MemoryOp) : Port :=
  if q.queue.isEmpty then { q with queue := [op], transfersDone := 0, transferStart := now }
  else if q.queue.length < Config.operationPlaces then { q with queue := q.queue ++ [op] }
  else { q with waiting := q.waiting ++ [op] }

/-- The part requests a memory operation. -/
def Part.request (p : Part) (op : MemoryOp) : Part := p.setPort (p.port.request p.now op)

/-- The operation in progress leaves the queue, the oldest waiting request enters it, and the next operation begins
(R149). -/
def Port.finish (q : Port) (now : Time) : Port where
  queue := q.queue.tail ++ q.waiting.take 1
  waiting := q.waiting.drop 1
  transfersDone := 0
  transferStart := now
  snapshot := none

/-- The operation is in the queue or in the waiting line. -/
def Port.outstanding (q : Port) (op : MemoryOp) : Bool := q.queue.contains op || q.waiting.contains op

/-! ### Open bytes (DESIGN CHOICE, log entry 3) -/

/-- `n` bytes the manual leaves open, with the part that has read them. -/
def Part.openRun (p : Part) (n : Nat) : List Byte × Part :=
  ((List.range n).map fun i => Config.freeByte (p.openBytes + i), { p with openBytes := p.openBytes + n })

end Sys2Proof.Machine
end

