-- ==== Sys2Proof/Machine/Claims.lean ====
section
/-! DEFINITION. Machine/Claims.lean: the Claim Table (06): coverage, CLAIM and RELEASE, leases, pinning, and the claims a
terminal or a check loses. -/

namespace Sys2Proof.Machine

/-! ### Coverage (R93) -/

/-- A claim of this scope covers share `k` of its check (R93). -/
def Scope.covers : Scope → Nat → Bool
  | .whole, _ => true
  | .share i, k => i == k

/-- The code of a scope: 0 for WHOLE, else the share index (R94). -/
def Scope.code : Scope → Nat
  | .whole => 0
  | .share i => i

/-- The scope a code names (R94). -/
def scopeOf (code : Nat) : Scope := if code = 0 then .whole else .share code

/-- The code of a claim state (R96). -/
def ClaimState.code : ClaimState → Nat
  | .active => 0
  | .pinned => 1

/-- The claims on a check, with their records, lowest record first. -/
def Part.claimsOn (p : Part) (number : Nat) : List (Nat × Claim) :=
  (inUse p.claims).filter fun x => x.2.check == number

/-- The claims of a terminal on a check. -/
def Part.ownClaims (p : Part) (terminal number : Nat) : List (Nat × Claim) :=
  (p.claimsOn number).filter fun x => x.2.terminal == terminal

/-- The terminal whose claim covers share `k` of a check, or 0 (R93). -/
def Part.holderOf (p : Part) (number k : Nat) : Nat :=
  match (p.claimsOn number).find? fun x => x.2.scope.covers k with
  | some x => x.2.terminal
  | none => 0

/-- The terminal that holds the WHOLE claim on a check, or 0 (R50). -/
def Part.wholeHolder (p : Part) (number : Nat) : Nat :=
  match (p.claimsOn number).find? fun x => decide (x.2.scope = .whole) with
  | some x => x.2.terminal
  | none => 0

/-- The terminal holds a claim that covers share `k` of the check (R93). -/
def Part.holdsCover (p : Part) (terminal number k : Nat) : Bool :=
  (p.ownClaims terminal number).any fun x => x.2.scope.covers k

/-- The terminal holds the WHOLE claim on the check (R93). -/
def Part.holdsWhole (p : Part) (terminal number : Nat) : Bool :=
  (p.ownClaims terminal number).any fun x => decide (x.2.scope = .whole)

/-! ### Leases (R92, R97) -/

/-- The claim lease in force (R92). -/
def Part.leaseTime (p : Part) : Time := seconds p.venue.claimLease

/-- The lease of one record is renewed: its deadline is cancelled and armed again (R97). -/
def Part.renewRecord (p : Part) (record : Nat) : Part := p.rearm (.claimLease record) p.leaseTime

/-- The leases of the ACTIVE claims among the given records are renewed, in their order. -/
def Part.renewAll : Part → List (Nat × Claim) → Part
  | p, [] => p
  | p, (i, c) :: rest => Part.renewAll (if c.state = .active then p.renewRecord i else p) rest

/-- A carried-out request of the holder that names a check renews the lease of every ACTIVE claim the holder has on it
(R97). -/
def Part.renewLeases (p : Part) (terminal number : Nat) : Part := p.renewAll (p.ownClaims terminal number)

/-! ### Freeing a claim (R25, R98, R101 to R104) -/

/-- The causes of CLAIM_LOST (R104). -/
def causeExpired : Nat := 1
def causeSuspect : Nat := 2
def causeBarred : Nat := 3
def causeClosed : Nat := 4
def causeDiscarded : Nat := 5

/-- A terminal's claim count changes (R25). -/
def Part.countClaim (p : Part) (terminal : Nat) (f : Nat → Nat) : Part :=
  let e := p.terminal terminal
  p.setTerminal terminal { e with claimCount := f e.claimCount }

/-- A record is freed: its deadline is cancelled and its holder's claim count falls by one (R25, R96). -/
def Part.freeClaim (p : Part) (record : Nat) (c : Claim) : Part :=
  ((p.cancel (.claimLease record)).setClaim record none).countClaim c.terminal fun n => n - 1

/-- The body of CLAIM_LOST (R104). -/
def claimLostBody (c : Claim) (cause : Nat) : List Byte :=
  leBytes 2 c.check ++ leBytes 1 c.scope.code ++ leBytes 1 cause ++ timeBytes c.grantedAt

/-- A record is freed and its holder is sent CLAIM_LOST (R104). -/
def Part.loseClaim (p : Part) (record : Nat) (c : Claim) (cause : Nat) : Part :=
  (p.freeClaim record c).advise c.terminal kindClaimLost (claimLostBody c cause)

/-- Several records are freed, each with its CLAIM_LOST, in the order of the list. -/
def Part.loseAll : Part → List (Nat × Claim) → Nat → Part
  | p, [], _ => p
  | p, (i, c) :: rest, cause => Part.loseAll (p.loseClaim i c cause) rest cause

/-- Several records are freed, with no advisory. -/
def Part.freeAll : Part → List (Nat × Claim) → Part
  | p, [] => p
  | p, (i, c) :: rest => Part.freeAll (p.freeClaim i c) rest

/-- A terminal that becomes SUSPECT or BARRED loses each of its ACTIVE claims (R19, R22, R102). Its CLAIM_LOST advisories go in the
order of its claim records (DESIGN CHOICE, log entry 14). -/
def Part.loseActive (p : Part) (terminal cause : Nat) : Part :=
  p.loseAll ((inUse p.claims).filter fun x => x.2.terminal == terminal && decide (x.2.state = .active)) cause

/-- A check that is closed or discarded frees every claim on it (R103). The CLAIM_LOST advisories, to several terminals or to one, go
in the order of the claim records (DESIGN CHOICE, log entry 14). -/
def Part.loseOnCheck (p : Part) (number cause : Nat) : Part := p.loseAll (p.claimsOn number) cause

/-! ### Pinning (R100, R101) -/

/-- The claim of the terminal that covers the share becomes PINNED and loses its lease deadline (R100). -/
def Part.pin (p : Part) (terminal number k : Nat) : Part :=
  match (p.ownClaims terminal number).find? fun x => x.2.scope.covers k with
  | some (i, c) => (p.cancel (.claimLease i)).setClaim i (some { c with state := .pinned })
  | none => p

/-- The claim that the terminal's tender pinned is unpinned: ACTIVE with a fresh lease, or freed with CLAIM_LOST when the
holder is then SUSPECT or BARRED (R101). -/
def Part.unpin (p : Part) (terminal number : Nat) : Part :=
  match (p.ownClaims terminal number).find? fun x => decide (x.2.state = .pinned) with
  | some (i, c) =>
    match (p.terminal terminal).state with
    | .unseen | .active => (p.setClaim i (some { c with state := .active })).renewRecord i
    | .suspect => p.loseClaim i c causeSuspect
    | .barred => p.loseClaim i c causeBarred
  | none => p

/-! ### CLAIM (R94 to R96) -/

/-- A claim of another terminal conflicts with a request for this scope (R94). -/
def Claim.conflicts (c : Claim) (terminal : Nat) (wanted : Scope) : Bool :=
  decide (c.terminal ≠ terminal) &&
    match wanted, c.scope with
    | .whole, _ => true
    | .share _, .whole => true
    | .share k, .share i => i == k

/-- Of two conflicting claims, the one the HELD refusal names: the one with the lower scope code (R94). -/
def lowerScope (a b : Claim) : Claim := if b.scope.code < a.scope.code then b else a

/-- The conflicting claim that the HELD refusal names (R94). -/
def Part.conflict (p : Part) (terminal number : Nat) (wanted : Scope) : Option Claim :=
  match (p.claimsOn number).filter fun x => x.2.conflicts terminal wanted with
  | [] => none
  | x :: rest => some (rest.foldl (fun best y => lowerScope best y.2) x.2)

/-- The requester's own records on the check that the request frees (R95): under a WHOLE request its share claims, under a
share request its WHOLE claim; none on a re-claim. -/
def Part.replaced (p : Part) (terminal number : Nat) (wanted : Scope) : List (Nat × Claim) :=
  let own := p.ownClaims terminal number
  if own.any fun x => decide (x.2.scope = wanted) then []
  else
    match wanted with
    | .whole => own
    | .share _ => own.filter fun x => decide (x.2.scope = .whole)

/-- The check's dwell becomes 0 and its alert-sent flag is cleared (R105). -/
def Check.resetDwell (c : Check) : Check := { c with dwell := 0, alerted := false }

/-- The record that a carried-out CLAIM leaves the requester with, and the part with it: the record of a re-claim, whose
lease is renewed when it is ACTIVE, or a new record (R96, steps 2 and 3). -/
def Part.grant (p : Part) (terminal number : Nat) (wanted : Scope) : Nat × Part :=
  match (p.ownClaims terminal number).find? fun x => decide (x.2.scope = wanted) with
  | some (i, c) => (i, if c.state = .active then p.renewRecord i else p)
  | none =>
    let i := (firstFree p.claims).getD Config.claimRecords
    let c : Claim := { terminal := terminal, check := number, scope := wanted, state := .active, grantedAt := p.now }
    (i, ((p.setClaim i (some c)).countClaim terminal fun n => n + 1).renewRecord i)

/-- The reply to CLAIM (R96). -/
def Part.claimReply (p : Part) (terminal record freed : Nat) : List Byte :=
  let scope := ((p.claimAt record).map fun c => c.scope.code).getD 0
  let state := ((p.claimAt record).map fun c => c.state.code).getD 0
  let granted := ((p.claimAt record).map fun c => c.grantedAt).getD 0
  leBytes 1 scope ++ leBytes 1 state ++ timeBytes granted ++ stampBytes (p.dueTime (.claimLease record))
    ++ leBytes 1 freed ++ leBytes 1 (p.terminal terminal).claimCount

/-- CLAIM is carried out (R96). -/
def Part.carryOutClaim (p : Part) (slot : Nat) (c : Check) (terminal : Nat) (wanted : Scope) : Part × List Byte :=
  let freed := p.replaced terminal c.number wanted
  let (record, q) := (p.freeAll freed).grant terminal c.number wanted
  let q := q.renewAll ((q.ownClaims terminal c.number).filter fun x => decide (x.1 ≠ record))
  let q := q.setCheck slot (some c.resetDwell)
  (q, q.claimReply terminal record freed.length)

/-- CLAIM: its checks in order, then its effect (R94 to R96). -/
def claimRequest (f : Frame) (p : Part) : Handled := do
  let terminal := f.sender
  let number := f.field 0 2
  let code := f.field 2 1
  let (slot, c) ← orRefuse (p.findCheck number) .noCheck
  ensure (decide (code ≤ c.plan.count)) .badField
  let wanted := scopeOf code
  match p.conflict terminal number wanted with
  | some other => .error (.held other.terminal)
  | none =>
    let freed := p.replaced terminal number wanted
    let created := if (p.ownClaims terminal number).any fun x => decide (x.2.scope = wanted) then 0 else 1
    ensure (freed.all fun x => decide (x.2.state = .active)) .busy
    ensure (decide ((p.terminal terminal).claimCount + created ≤ Config.claimsPerTerminal + freed.length)) .claimLimit
    ensure (decide (created ≤ freed.length) || (firstFree p.claims).isSome) .claimsFull
    let (q, fields) := p.carryOutClaim slot c terminal wanted
    .ok (q, some fields)

/-! ### RELEASE (R99) -/

/-- RELEASE: its checks in order, then its effect (R99). -/
def releaseRequest (f : Frame) (p : Part) : Handled := do
  let terminal := f.sender
  let number := f.field 0 2
  let code := f.field 2 1
  ensure (decide (code ≤ Config.shareRecords)) .badField
  let _ ← orRefuse (p.findCheck number) .noCheck
  let (record, c) ← orRefuse ((p.ownClaims terminal number).find? fun x => decide (x.2.scope = scopeOf code)) .notClaimed
  ensure (decide (c.state = .active)) .busy
  let q := (p.freeClaim record c).renewLeases terminal number
  .ok (q, some (leBytes 1 (q.terminal terminal).claimCount))

end Sys2Proof.Machine
end

