-- ==== Sys2Proof/Machine/Roster.lean ====
section
/-! DEFINITION. Machine/Roster.lean: the Terminal Roster (02): the steps every terminal frame passes, and
TERMINAL_CONTROL. -/

namespace Sys2Proof.Machine

/-- A terminal link's number, 0 to 3 (R19). -/
def tlNumber : Tl → Nat
  | .tl0 => 0
  | .tl1 => 1
  | .tl2 => 2
  | .tl3 => 3

/-- The code of a roster state (R21). -/
def RosterState.code : RosterState → Nat
  | .unseen => 0
  | .active => 1
  | .suspect => 2
  | .barred => 3

/-- Terminal `n` is in the permit list in force (R17, R180). -/
def Part.permitted (p : Part) (n : Nat) : Bool :=
  within 1 Config.terminals n && p.venue.permits.getLsbD (n - 1)

/-- What the Roster makes of a frame: it discards it as a re-heard copy, refuses it, or passes it on. -/
inductive RosterOutcome
  | discarded (p : Part)
  | refused (r : Result) (p : Part)
  | passed (p : Part)

/-- The entry takes the arriving link, the present time, and the frame's tag and kind (R20). -/
def Part.hear (p : Part) (t : Tl) (f : Frame) : Part :=
  let e := p.terminal f.sender
  p.setTerminal f.sender { e with heard := some { link := t, time := p.now, tag := f.tag, kind := f.kind } }

/-- A terminal's roster state is replaced; its other fields stay (R19, R20, R22). -/
def Part.setRosterState (p : Part) (n : Nat) (state : RosterState) : Part :=
  let e := p.terminal n
  p.setTerminal n { e with state := state }

/-- The body of TERMINAL_SUSPECT after the common fields (R19). -/
def suspectFields (f : Frame) (previous arriving : Tl) : List Byte :=
  leBytes 2 f.sender ++ leBytes 1 (tlNumber previous) ++ leBytes 1 (tlNumber arriving) ++ [f.kind, f.tag]

/-- A different frame on another link within the duplicate window: two handhelds carry the number (R19). -/
def Part.secondIdentity (p : Part) (t : Tl) (f : Frame) (previous : Tl) : RosterOutcome :=
  let n := f.sender
  let q := p.hear t f
  match (p.terminal n).state with
  | .unseen | .active =>
    let q := (q.setRosterState n .suspect).loseActive n causeSuspect
    .refused .suspect (q.notice noticeTerminalSuspect (suspectFields f previous t))
  | .suspect => .refused .suspect q
  | .barred => .refused .barred q

/-- The update of the entry and the state check (R20). -/
def Part.letPass (p : Part) (t : Tl) (f : Frame) : RosterOutcome :=
  let n := f.sender
  let q := p.hear t f
  match (p.terminal n).state with
  | .unseen => .passed (q.setRosterState n .active)
  | .active => .passed q
  | .suspect => .refused .suspect q
  | .barred => .refused .barred q

/-- The Roster's steps on a frame from terminal link `t`: the permit check (R17), the test against the last frame heard
on another link (R18, R19), the update and the state check (R20). -/
def Part.rosterStep (p : Part) (t : Tl) (f : Frame) : RosterOutcome :=
  if !p.permitted f.sender then .refused .unknownTerminal p
  else
    match (p.terminal f.sender).heard with
    | none => p.letPass t f
    | some h =>
      if h.link ≠ t ∧ (p.now - h.time).toNat ≤ p.venue.duplicateWindow then
        if h.tag = f.tag ∧ h.kind = f.kind then
          .discarded { p with reheard := saturate Config.counterMax p.reheard }
        else p.secondIdentity t f h.link
      else p.letPass t f

/-! ### TERMINAL_CONTROL (R21, R22) -/

/-- Action RESET: the entry becomes UNSEEN (R22). -/
def Part.controlReset (p : Part) (n : Nat) : Part := p.setRosterState n .unseen

/-- Action BAR: the entry becomes BARRED; from UNSEEN and ACTIVE its ACTIVE claims are released (R22, R102). -/
def Part.controlBar (p : Part) (n : Nat) : Part :=
  match (p.terminal n).state with
  | .unseen | .active => (p.setRosterState n .barred).loseActive n causeBarred
  | .suspect | .barred => p.setRosterState n .barred

/-- Action UNBAR: a BARRED entry becomes UNSEEN; any other is not changed (R22). -/
def Part.controlUnbar (p : Part) (n : Nat) : Part :=
  match (p.terminal n).state with
  | .barred => p.setRosterState n .unseen
  | .unseen | .active | .suspect => p

/-- TERMINAL_CONTROL with an action: its checks in order, then the action; the reply gives the states before and after
(R21). -/
def terminalControlRequest (action : Part → Nat → Part) (f : Frame) (p : Part) : Handled := do
  let n := f.field 0 2
  ensure (within 1 Config.terminals n) .badField
  ensure (within 1 3 (f.field 2 1)) .badField
  let q := action p n
  .ok (q, some (leBytes 1 (p.terminal n).state.code ++ leBytes 1 (q.terminal n).state.code))

end Sys2Proof.Machine
end

