-- ==== Sys2Proof/Machine/Serve.lean ====
section
/-! DEFINITION. Machine/Serve.lean: taking the frame at the head of an inbound queue and handling it to its end: the
conditions of R6, the checks of R4 in order, the reply of R7. -/

namespace Sys2Proof.Machine

/-- The frame at the head of link `l`'s inbound queue, when the conditions of R6 let it be taken: the start-up state, and
for a terminal link or OL a free place in the outbound queue of the same link. -/
def Part.takable (p : Part) (l : Link) : Option Frame :=
  if p.control.startup.takesFrames && (decide (l = .al) || decide (0 < p.freePlaces l)) then
    (p.link l).inbound.head?
  else none

/-- The head of link `l`'s inbound queue leaves it (R5, R6). -/
def Part.dropHead (p : Part) (l : Link) : Part :=
  p.setLink l { p.link l with inbound := (p.link l).inbound.tail }

/-- The part while it handles the frame it has taken from a terminal link or OL: the frame has left the queue, and one
outbound place is kept for the reply (R6). -/
def Part.taken (p : Part) (l : Link) : Part := { p.dropHead l with kept := some l }

/-- The end of a request's handling: its immediate reply, or none when its outcome comes later (R6, R7). A refusal leaves
the part as the Roster left it. -/
def Part.conclude (p : Part) (l : Link) (f : Frame) : Handled → Part
  | .error r => p.reply l (replyFrame f r.body)
  | .ok (q, some fields) => q.reply l (replyFrame f (leBytes 1 0 ++ fields))
  | .ok (q, none) => q.releasePlace

/-- A request passes its body-length check and its own checks (R4, steps 4 and 5). -/
def lengthThen (lengthOk : Bool) (handler : Handled) : Handled :=
  if lengthOk then handler else .error .badField

/-- A terminal request is handled: the start-up state, the Terminal Roster, the body length, the request's own checks
(R4). -/
def Part.handleTerminal (p : Part) (t : Tl) (f : Frame) (lengthOk : Bool) (handler : Frame → Part → Handled) : Part :=
  if p.control.startup ≠ .ready then p.conclude (.tl t) f (.error .notReady)
  else
    match p.rosterStep t f with
    | .discarded q => q.releasePlace
    | .refused r q => q.conclude (.tl t) f (.error r)
    | .passed q => q.conclude (.tl t) f (lengthThen lengthOk (handler f q))

/-- An order-server request is handled: the start-up state, unless the request is excepted from it, the terminal field,
the body length, the request's own checks (R4). -/
def Part.handleOrder (p : Part) (f : Frame) (excepted lengthOk : Bool) (handler : Frame → Part → Handled) : Part :=
  p.conclude .ol f
    (if p.control.startup ≠ .ready ∧ !excepted then .error .notReady
     else if f.terminal ≠ 0 then .error .badField
     else lengthThen lengthOk (handler f p))

/-- The command that takes a terminal request: it takes place when the frame at the head of the link's queue can be taken
and is one that the command handles; otherwise nothing happens (DESIGN CHOICE, log entry 5). -/
def Part.serveTerminal (p : Part) (t : Tl) (handles lengthOk : Frame → Bool) (handler : Frame → Part → Handled) : Part :=
  match p.takable (.tl t) with
  | some f => if handles f then (p.taken (.tl t)).handleTerminal t f (lengthOk f) handler else p
  | none => p

/-- The command that takes an order-server request (DESIGN CHOICE, log entry 5). -/
def Part.serveOrder (p : Part) (handles : Frame → Bool) (excepted : Bool) (lengthOk : Frame → Bool)
    (handler : Frame → Part → Handled) : Part :=
  match p.takable .ol with
  | some f => if handles f then (p.taken .ol).handleOrder f excepted (lengthOk f) handler else p
  | none => p

/-- The command that takes a gateway frame (DESIGN CHOICE, log entry 5). -/
def Part.serveGateway (p : Part) (handles : Frame → Bool) (handler : Frame → Part → Part) : Part :=
  match p.takable .al with
  | some f => if handles f then handler f (p.dropHead .al) else p
  | none => p

/-- A frame of this kind. -/
def ofKind (kind : Byte) (f : Frame) : Bool := f.kind == kind

/-- A frame of this kind with a body of this length whose field at an offset has this value. -/
def ofVariant (kind : Byte) (length offset width value : Nat) (f : Frame) : Bool :=
  ofKind kind f && f.hasLength length && decide (f.field offset width = value)

/-- A frame whose kind its link does not accept: refused with BAD_KIND, or on AL discarded and counted (R4). -/
def Part.refuseKind (p : Part) (l : Link) (f : Frame) : Part :=
  match l with
  | .al => (p.dropHead .al).countFraming .al
  | _ => (p.taken l).conclude l f (.error .badKind)

/-- The next state in which the part has changed and the waiting commands have not. -/
def act (f : Part → Part) (s : State) : Host.Outcome State Fault Refusal := .next { s with toPart := f s.toPart }

end Sys2Proof.Machine
end

