-- ==== Sys2Proof/Machine/Clock.lean ====
section
/-! DEFINITION. Machine/Clock.lean: the Service Clock Unit (10): the tick, whole seconds and dwell, calibration; and the
expiry of a claim's lease. -/

namespace Sys2Proof.Machine

/-! ### The tick (R168, R169) -/

/-- `n` system clocks pass in a calibration that is COUNTING (R174). -/
def Calibration.clocks (k : Calibration) (n : Nat) : Calibration :=
  match k with
  | .idle => .idle
  | .waiting => .waiting
  | .counting edges clocks => .counting edges (clocks + n)

/-- A tick: the system clocks still missing from it pass, the clock and the second counter count it, and the next tick
counts the divisor that is due to take effect (R168, R169). -/
def ClockUnit.tick (u : ClockUnit) : ClockUnit :=
  { u with
    clock := u.clock + 1
    tickCounter := 0
    divisor := u.nextDivisor.getD u.divisor
    nextDivisor := none
    second := if u.second = 999 then 0 else u.second + 1
    secondsDue := if u.second = 999 then u.secondsDue + 1 else u.secondsDue
    calibration := u.calibration.clocks (u.divisor - u.tickCounter) }

/-- One system clock passes: the tick counter counts it, and a tick occurs when it has counted the divisor (R168). -/
def ClockUnit.systemClock (u : ClockUnit) : ClockUnit :=
  if u.tickCounter + 1 < u.divisor then
    { u with tickCounter := u.tickCounter + 1, calibration := u.calibration.clocks 1 }
  else u.tick

/-- The tick counter reaches the divisor while the clock runs (R168, R169). -/
def Part.clockTick (p : Part) : Part :=
  if p.control.startup.running then p.setClock p.clockUnit.tick else p

/-- One system clock passes while the clock runs (R168, R169). -/
def Part.systemClock (p : Part) : Part :=
  if p.control.startup.running then p.setClock p.clockUnit.systemClock else p

/-! ### Dwell (R176, R177) -/

/-- The check gains dwell: PRESENTED or SETTLING, a share not PAID, no claim on it (R176). -/
def Part.gated (p : Part) (c : Check) : Bool :=
  (decide (c.state = .presented) || decide (c.state = .settling)) && !c.allPaid && (p.claimsOn c.number).isEmpty

/-- The shares of the list that are not PAID (R177). -/
def Check.unpaid (c : Check) : List Nat := c.shareIndices.filter fun k => !(c.share k).paid

/-- The body of DWELL_ALERT after the common fields (R177). -/
def dwellFields (c : Check) : List Byte :=
  leBytes 2 c.number ++ leBytes 2 c.table ++ leBytes 1 c.state.code ++ leBytes 2 c.dwell ++ leBytes 1 c.unpaid.length
    ++ leSigned 4 ((c.unpaid.map fun k => (c.share k).remaining).sum) ++ stampBytes c.presentedAt

/-- A gated check gains one second, and is alerted when its dwell has reached the threshold (R176). -/
def Part.countSecond (p : Part) (slot : Nat) (c : Check) : Part :=
  if p.gated c then
    let d := { c with dwell := saturate Config.dwellMax c.dwell }
    if p.venue.dwellThreshold ≠ 0 ∧ p.venue.dwellThreshold ≤ d.dwell ∧ !c.alerted then
      (p.setCheck slot (some { d with alerted := true })).notice noticeDwellAlert (dwellFields d)
    else p.setCheck slot (some d)
  else p

/-- The second is counted on each of the checks given, in their order (DESIGN CHOICE, log entry 22). -/
def Part.countAll : Part → List (Nat × Check) → Part
  | p, [] => p
  | p, (slot, c) :: rest => Part.countAll (p.countSecond slot c) rest

/-- A whole second that has passed is counted; in READY and SAVING every gated check gains it (R169, R176). Without one
nothing happens (DESIGN CHOICE, log entry 5). -/
def Part.wholeSecond (p : Part) : Part :=
  if p.control.startup.running ∧ 0 < p.clockUnit.secondsDue then
    let q := p.setClock { p.clockUnit with secondsDue := p.clockUnit.secondsDue - 1 }
    if p.control.startup = .ready ∨ p.control.startup = .saving then q.countAll (inUse q.checks) else q
  else p

/-! ### Calibration (R173 to R175) -/

/-- The guard's interval (R173). -/
def guardTime : Time := milliseconds Config.guardInterval

/-- The calibration state is replaced. -/
def Part.setCalibration (p : Part) (k : Calibration) : Part := p.setClock { p.clockUnit with calibration := k }

/-- CALIBRATE (R173). -/
def calibrateRequest (_ : Frame) (p : Part) : Handled := do
  ensure (decide (p.clockUnit.calibration = .idle)) .busy
  .ok ((p.setCalibration .waiting).arm .calGuard guardTime, some (leBytes 2 p.clockUnit.divisor))

/-- The causes of CAL_FAIL (R175). -/
def causeNoReference : Nat := 1
def causeOutOfRange : Nat := 2

/-- A calibration fails: IDLE, the flag set, the notice produced (R174, R175). -/
def Part.calibrationFails (p : Part) (cause clocks edges : Nat) : Part :=
  (p.setClock { p.clockUnit with calibration := .idle, calFail := true }).notice noticeCalFail
    (leBytes 1 cause ++ leBytes 2 p.clockUnit.divisor ++ leBytes 4 clocks ++ leBytes 1 edges)

/-- The 16th counted edge: the calibrated divisor is taken when it is in range (R175). -/
def Part.calibrated (p : Part) (clocks : Nat) : Part :=
  let result := roundHalfUp clocks 16000
  if within Config.divisorMin Config.divisorMax result then
    (p.setClock { p.clockUnit with calibration := .idle, calFail := false, nextDivisor := some result }).notice
      noticeCalDone (leBytes 2 result ++ leBytes 2 p.clockUnit.divisor ++ leBytes 4 clocks)
  else p.calibrationFails causeOutOfRange clocks Config.calibrationEdges

/-- A rising edge on REFPPS (R174). -/
def Part.refppsEdge (p : Part) : Part :=
  if p.control.startup.running then
    match p.clockUnit.calibration with
    | .idle => p
    | .waiting => (p.setCalibration (.counting 0 0)).rearm .calGuard guardTime
    | .counting edges clocks =>
      if edges + 1 < Config.calibrationEdges then
        (p.setCalibration (.counting (edges + 1) clocks)).rearm .calGuard guardTime
      else (p.cancel .calGuard).calibrated clocks
  else p

/-- The calibration guard expires (R174). -/
def Part.calGuardExpiry (p : Part) : Part :=
  if p.dueOwner = some .calGuard then
    match p.clockUnit.calibration with
    | .idle => p.deliver
    | .waiting => p.deliver.calibrationFails causeNoReference 0 0
    | .counting edges _ => p.deliver.calibrationFails causeNoReference 0 edges
  else p

/-! ### The expiry of a lease (R98) -/

/-- A claim's lease falls due: the record is freed and CLAIM_LOST is sent (R98). -/
def Part.claimLeaseExpiry (p : Part) : Part :=
  match p.dueOwner with
  | some (.claimLease record) =>
    match p.claimAt record with
    | some c => p.deliver.loseClaim record c causeExpired
    | none => p.deliver
  | some (.auth _ _) | some .alAlive | some .alSettle | some .calGuard | none => p

end Sys2Proof.Machine
end

