-- ==== Sys2Proof/Machine/Journal.lean ====
section
/-! DEFINITION. Machine/Journal.lean: the Journal Unit (09): the journal slot's bytes, reservations, voids, the head test,
the high-water test, and what the Authorization Unit reads of the mirror. -/

namespace Sys2Proof.Machine

/-! ### The journal slot in the memory (R152) -/

/-- The address of a journal slot. -/
def slotAddress (slot : Nat) : Nat := Config.journalBase + Config.slotBytes * slot

/-- The state bytes of a slot. -/
def stateBytePending : Byte := 0x3C#8
def stateByteVoid : Byte := 0x00#8

/-- The auth amount of a slot: amount plus tip (R136, R154). -/
def SlotContents.authAmount (c : SlotContents) : Nat := c.amount + c.tip

/-- Offsets 1 to 125 of a slot, which its check value covers (R152). -/
def slotCovered (sequence : BitVec 32) (c : SlotContents) : List Byte :=
  leBytes 4 sequence.toNat ++ leBytes 2 c.check ++ leBytes 2 c.table ++ leBytes 2 c.terminal ++ leBytes 1 c.tender
    ++ leBytes 4 c.amount ++ leBytes 4 c.tip ++ timeBytes c.stamp ++ leBytes 1 c.token.length
    ++ (c.token ++ List.replicate 64 0).take 64 ++ List.replicate 37 0

/-- The 128 bytes of a slot that an APPEND writes: state PENDING (R152). -/
def pendingSlotBytes (sequence : BitVec 32) (c : SlotContents) : List Byte :=
  stateBytePending :: slotCovered sequence c ++ leBytes 2 (crc16 (slotCovered sequence c)).toNat

/-! ### Requests the journal makes (R154, R157, R158) -/

/-- The head test: a VOID head slot with no ERASE of it outstanding has one requested (R158). -/
def Part.headTest (p : Part) : Part :=
  match p.journal.slotAt p.journal.head with
  | some s =>
    if s.state = .void ∧ !p.port.outstanding (.erase p.journal.head true) then p.request (.erase p.journal.head true) else p
  | none => p

/-- The body of JOURNAL_HIGH after the common fields (R161). -/
def Part.journalHighFields (p : Part) : List Byte :=
  leBytes 2 p.journal.occupied ++ leBytes 2 p.venue.highWater ++ leBytes 2 p.journal.pendingCount
    ++ leBytes 4 p.journal.deferredTotal

/-- The high-water test (R161). -/
def Part.highWaterTest (p : Part) : Part :=
  if p.venue.highWater ≤ p.journal.occupied ∧ !p.journal.highWater then
    (p.setJournal { p.journal with highWater := true }).notice noticeJournalHigh p.journalHighFields
  else p

/-- The journal after a reservation at the tail (R154, steps 1 to 3). -/
def Journal.reserve (j : Journal) (c : SlotContents) : Journal :=
  { j.setSlot j.tail (some { state := .reserved, sequence := j.nextSequence, contents := c }) with
    nextSequence := j.nextSequence + 1, tail := nextSlot j.tail, occupied := j.occupied + 1,
    deferredTotal := j.deferredTotal + c.authAmount }

/-- A slot is reserved for an offline acceptance: the slot, and the part with the APPEND requested and the high-water test
made (R154). -/
def Part.reserve (p : Part) (c : SlotContents) : Nat × Part :=
  (p.journal.tail, ((p.setJournal (p.journal.reserve c)).request (.append p.journal.tail)).highWaterTest)

/-! ### Voids (R155 to R157) -/

/-- The journal after the void of an entry: PENDING entries lose their token, and the deferred total falls by the auth
amount (R155 to R157, R160). -/
def Journal.voidSlot (j : Journal) (slot : Nat) (s : Slot) : Journal :=
  let contents := if s.state = .pending then { s.contents with token := [] } else s.contents
  { j.setSlot slot (some { s with state := .void, contents := contents }) with
    deferredTotal := j.deferredTotal - s.contents.authAmount }

/-- A PENDING slot is voided at an event; a slot in any other state is not changed (R157). -/
def Part.voidPending (p : Part) (slot : Nat) : Part :=
  match p.journal.slotAt slot with
  | some s =>
    if s.state = .pending then ((p.setJournal (p.journal.voidSlot slot s)).request (.markVoid slot)).headTest else p
  | none => p

/-- A RESERVED slot is voided at the end of its APPEND, its MARK_VOID requested; the head test is the caller's (R155,
R156). -/
def Part.voidReserved (p : Part) (slot : Nat) : Part :=
  match p.journal.slotAt slot with
  | some s =>
    if s.state = .reserved then (p.setJournal (p.journal.voidSlot slot s)).request (.markVoid slot) else p
  | none => p

/-! ### The ends of an ERASE of the head (R158) -/

/-- The first entry that is not EMPTY among `fuel` slots from `slot` on, or the tail (R158). -/
def Journal.seek (j : Journal) (slot : Nat) : Nat → Nat
  | 0 => j.tail
  | fuel + 1 => if (j.slotAt slot).isSome then slot else j.seek (nextSlot slot) fuel

/-- The journal after the ERASE of its head completed: the head advances, the occupied count falls, and the high-water
flag is cleared when the count has fallen below the mark (R158, R161). -/
def Journal.eraseHead (j : Journal) (mark : Nat) : Journal :=
  let k := j.setSlot j.head none
  { k with head := k.seek (nextSlot j.head) Config.journalSlots, occupied := j.occupied - 1,
           highWater := j.highWater && decide (mark ≤ j.occupied - 1), eraseAgain := false }

/-! ### What the Authorization Unit reads (R153, R159) -/

/-- A DRAIN entry names the slot (R136, R159): by its slot alone, whatever sequence it holds (DESIGN CHOICE, log entry 54). -/
def Part.drainNames (p : Part) (slot : Nat) : Bool :=
  p.entries.toList.any fun e =>
    match e.use with
    | some x =>
      match x.kind with
      | .drain s _ => s == slot
      | .live _ _ | .reversal _ _ _ => false
    | none => false

/-- Of two slots, the one with the lower sequence (R153). -/
def lowerSequence (a b : Nat × Slot) : Nat × Slot := if later a.2.sequence b.2.sequence then b else a

/-- The slot handed out for a submission: the PENDING entry with the lowest sequence that no DRAIN entry names; none when
the lock is set (R136, R159). -/
def Part.slotForDrain (p : Part) : Option (Nat × Slot) :=
  if p.journal.locked then none
  else
    match (inUse p.journal.mirror).filter fun x => decide (x.2.state = .pending) && !p.drainNames x.1 with
    | [] => none
    | x :: rest => some (rest.foldl lowerSequence x)

/-- The mirror entry is PENDING and holds the sequence that a DRAIN entry holds: any other answer is VOID (R159). -/
def Journal.stillPending (j : Journal) (slot : Nat) (sequence : BitVec 32) : Bool :=
  match j.slotAt slot with
  | some s => decide (s.sequence = sequence) && decide (s.state = .pending)
  | none => false

/-! ### The offline decision (R138) -/

/-- The four conditions of the offline decision (R138). -/
def Part.acceptsOffline (p : Part) (amount : Nat) (eligible : Bool) : Bool :=
  eligible && decide (amount ≤ p.venue.floorLimit)
    && decide (p.journal.deferredTotal + amount ≤ p.venue.offlineCeiling)
    && decide (p.journal.occupied < Config.journalSlots)

end Sys2Proof.Machine
end

