-- ==== Sys2Proof/Machine/AuthTable.lean ====
section
/-! DEFINITION. Machine/AuthTable.lean: the authorization table (08): taking, freeing and converting entries, the send
queue and the intervals of R135. -/

namespace Sys2Proof.Machine

/-- The code of a reversal source (R130, R185). -/
def Source.code : Source → Nat
  | .authorization => 0
  | .submission => 1

/-- The authorization timeout in force (R135). -/
def Part.authTime (p : Part) : Time := seconds p.venue.authTimeout

/-- The late window in force (R135). -/
def Part.lateTime (p : Part) : Time := seconds p.venue.lateWindow

/-- An authorization entry is FREE (R110, R121). -/
def Part.entryFree (p : Part) : Bool := !p.freeList.isEmpty

/-- The owner of an entry's deadline (R170). -/
def Part.entryOwner (p : Part) (i : Nat) : Owner := .auth i (p.entryCell i).generation

/-- The use of an entry is replaced; its index and generation stay. -/
def Part.setUse (p : Part) (i : Nat) (x : Option Entry) : Part := p.setEntry i { p.entryCell i with use := x }

/-- An entry joins the tail of the send queue when it is QUEUED (R127). -/
def Part.queueEntry (p : Part) (i : Nat) : Part := { p with sendQueue := p.sendQueue ++ [i] }

/-- An entry leaves the send queue. -/
def Part.unqueueEntry (p : Part) (i : Nat) : Part := { p with sendQueue := p.sendQueue.filter fun j => decide (j ≠ i) }

/-- The entry at the head of the free list is taken with these contents, its deadline armed; one that is QUEUED joins the
send queue (R128). Without a FREE entry nothing happens: the requests that take one have checked that there is. -/
def Part.takeEntry (p : Part) (x : Entry) (interval : Time) : Part :=
  match p.freeList with
  | [] => p
  | i :: rest =>
    let q := ({ p with freeList := rest }.setUse i (some x)).arm (p.entryOwner i) interval
    if x.state = .queued then q.queueEntry i else q

/-- An entry is freed: its deadline is cancelled, its contents are cleared, its generation increases and it joins the tail
of the free list (R128). -/
def Part.freeEntry (p : Part) (i : Nat) : Part :=
  let q := ((p.cancel (p.entryOwner i)).unqueueEntry i).setEntry i
    { generation := (p.entryCell i).generation + 1, use := none }
  { q with freeList := q.freeList ++ [i] }

/-- A LIVE or DRAIN entry goes to WATCH: its token is wiped and its late window armed (R137, R146). -/
def Part.watchEntry (p : Part) (i : Nat) (x : Entry) : Part :=
  let kind : EntryKind :=
    match x.kind with
    | .live _ eligible => .live [] eligible
    | .drain slot sequence => .drain slot sequence
    | .reversal code source sequence => .reversal code source sequence
  (((p.unqueueEntry i).setUse i (some { x with kind := kind, state := .watch })).rearm (p.entryOwner i) p.lateTime)

/-- A LIVE or DRAIN entry becomes a REVERSAL, QUEUED at the tail of the send queue, with its late window armed afresh; it
keeps its index, generation, tender reference and report fields (R143). -/
def Part.convertEntry (p : Part) (i : Nat) (x : Entry) (code : List Byte) (source : Source) (sequence : BitVec 32) : Part :=
  ((p.setUse i (some { x with kind := .reversal code source sequence, state := .queued })).rearm (p.entryOwner i)
    p.lateTime).queueEntry i

/-- The tender an entry's reference names, with its check slot and check. -/
def Part.tenderOf (p : Part) (x : Entry) : Option (Nat × Check × Tender) :=
  match x.tender with
  | none => none
  | some r =>
    match p.checkAt r.slot with
    | none => none
    | some c => (c.tender r.id).map fun t => (r.slot, c, t)

/-- The first tender of the part that passes a test, with its check slot and check; checks are searched by slot. -/
def findTenderIn (test : Tender → Bool) : List (Nat × Check) → Option (Nat × Check × Tender)
  | [] => none
  | (i, c) :: rest =>
    match c.tenders.find? test with
    | some t => some (i, c, t)
    | none => findTenderIn test rest

/-- The first tender of the part that passes a test. -/
def Part.findTender (p : Part) (test : Tender → Bool) : Option (Nat × Check × Tender) :=
  findTenderIn test (inUse p.checks)

end Sys2Proof.Machine
end

