-- ==== Sys2Proof/Machine/Shares.lean ====
section
/-! DEFINITION. Machine/Shares.lean: the Share Engine (04): storing a recomputation, the open-share delta, anchoring, money
entering and leaving a share, SHARE_CHANGED, and the requests SET_PLAN, ASSIGN_LINE and VIEW_SHARE; and the settlement
evaluation of the Check Table (R43), which each of these is followed by. -/

namespace Sys2Proof.Machine

/-! ### Storing a recomputation (R52, R54, R56, R59) -/

/-- A share record with new figures; its revision increases when it joins the list or its due changes (R54). -/
def Share.withFigures (s : Share) (joins : Bool) (g : Figures) : Share :=
  { s with due := g.due, preTax := g.preTax, portions := g.portions,
           revision := if joins ∨ s.due ≠ g.due then s.revision + 1 else s.revision }

/-- The figures of a recomputation are stored: the list is as long as the figures, records beyond it keep their revisions
alone, and records beyond the old count join (R52, R56, R59). -/
def Check.storeFigures (c : Check) (oldCount : Nat) (figures : List Figures) : Check :=
  { c with shares := tabulate 16 fun i =>
      match figures[i]? with
      | some g => (c.share (i + 1)).withFigures (decide (oldCount ≤ i)) g
      | none => .blank (c.share (i + 1)).revision }

/-- The shares of the list whose revision an event changed (R65). -/
def changedShares (before after : Check) : List Nat :=
  after.shareIndices.filter fun k => decide ((before.share k).revision ≠ (after.share k).revision)

/-! ### SHARE_CHANGED (R65, R66) -/

/-- The causes of SHARE_CHANGED (R66). -/
def causeRecomputed : Nat := 1
def causeDelta : Nat := 2
def causePayment : Nat := 3
def causeVoid : Nat := 4

/-- A share entry of SHARE_CHANGED (R66). -/
def shareChangedEntry (c : Check) (k : Nat) : List Byte :=
  let s := c.share k
  leBytes 1 k ++ leBytes 4 s.due ++ leSigned 4 s.remaining ++ leBytes 1 s.state.code ++ leBytes 2 s.revision.toNat

/-- The body of SHARE_CHANGED for the shares given (R66). -/
def shareChangedBody (c : Check) (cause : Nat) (shares : List Nat) : List Byte :=
  leBytes 2 c.number ++ leBytes 1 cause ++ leBytes 1 shares.length ++ (shares.map (shareChangedEntry c)).flatten

/-- Each of the terminals given that holds a changed share is sent one advisory that lists those it holds (R65). -/
def Part.adviseHolders : Part → Check → Nat → List Nat → List Nat → Part
  | p, _, _, _, [] => p
  | p, c, cause, changed, terminal :: rest =>
    let mine := changed.filter fun k => p.holdsCover terminal c.number k
    Part.adviseHolders
      (if mine.isEmpty then p else p.advise terminal kindShareChanged (shareChangedBody c cause mine)) c cause changed rest

/-- The holders of changed shares, but for the terminal the event is attributed to, are sent SHARE_CHANGED (R65); they are
served in the order of their claim records (DESIGN CHOICE, log entry 14). -/
def Part.shareChanged (p : Part) (c : Check) (cause : Nat) (changed : List Nat) (attributed : Option Nat) : Part :=
  let holders := (((p.claimsOn c.number).map fun x => x.2.terminal).eraseDups).filter fun t => decide (some t ≠ attributed)
  p.adviseHolders c cause changed holders

/-! ### Settlement evaluation (R43) -/

/-- The body of CHECK_SETTLED after the common fields (R43). -/
def settledFields (c : Check) : List Byte :=
  leBytes 2 c.number ++ leBytes 2 c.table ++ leBytes 4 c.totals.total
    ++ leBytes 1 (c.tenders.countP fun t => t.state.accepted)

/-- The settlement evaluation of the check in a slot (R43). -/
def Part.evaluate (p : Part) (slot : Nat) : Part :=
  match p.checkAt slot with
  | none => p
  | some c =>
    match c.state with
    | .settling =>
      if c.allPaid && decide (c.flight = 0) then
        (p.setCheck slot (some { c with state := .settled, settledAt := some p.now })).notice noticeCheckSettled
          (settledFields c)
      else p
    | .settled =>
      if c.allPaid then p else p.setCheck slot (some { c with state := .settling, settledAt := none })
    | .opened | .presented => p

/-! ### Anchoring and money (R42, R62 to R64) -/

/-- The plan becomes FIXED, every due and pre-tax part kept (R62). -/
def Check.fixPlan (c : Check) : Check :=
  { c with plan := { c.plan with kind := .fixed, given := [] },
           lines := c.lines.map fun l => { l with shareSet := none },
           shares := tabulate 16 fun i => { c.share (i + 1) with portions := none } }

/-- A check that is not anchored is anchored (R42, steps 1 to 3). -/
def Check.anchor (c : Check) (now : Time) : Check :=
  if c.anchored then c else { c.fixPlan with state := .settling, anchoredAt := some now }

/-- A tender's money enters a share (R63). -/
def Share.enter (s : Share) (t : Tender) : Share :=
  { s with applied := s.applied + t.amount, tips := s.tips + t.payment.tip, rounding := s.rounding + t.payment.rounding,
           revision := s.revision + 1 }

/-- A tender's money leaves a share (R64). -/
def Share.leave (s : Share) (t : Tender) : Share :=
  { s with applied := s.applied - t.amount, tips := s.tips - t.payment.tip, rounding := s.rounding - t.payment.rounding,
           revision := s.revision + 1 }

/-- A tender is accepted: the check is anchored if it was not, the money enters the share, the evaluation runs and the
holders are told (R42, R117). -/
def Part.accept (p : Part) (slot id : Nat) (attributed : Option Nat) : Part :=
  match p.checkAt slot with
  | none => p
  | some c =>
    match c.tender id with
    | none => p
    | some t =>
      let d := c.anchor p.now
      let d := d.setShare t.share ((d.share t.share).enter t)
      ((p.setCheck slot (some d)).evaluate slot).shareChanged d causePayment [t.share] attributed

/-! ### A change of the totals (R34 to R36) -/

/-- The open share after a change of total: its due takes the difference, its pre-tax part the difference of the item
net, held within 0 and the new due (R36). -/
def Share.charge (s : Share) (delta deltaNet : Int) : Share :=
  let due := (s.due + delta).toNat
  { s with due := due, preTax := min (s.preTax + deltaNet).toNat due, revision := s.revision + 1 }

/-- The distribution of a change on a check under FIXED: `d` is the check with its new lines, covers and totals (R36, R62). It
gives the part and the index that the reply carries: that of the share that took the delta, 0 when the total did not move and on
a check that is not anchored (R37 to R39). -/
def Part.distributeFixed (p : Part) (slot : Nat) (c d : Check) : Except Result (Part × Nat) :=
  let delta : Int := (d.totals.total : Int) - c.totals.total
  let deltaNet : Int := (d.totals.itemNet : Int) - c.totals.itemNet
  if delta = 0 ∧ deltaNet = 0 then .ok (p.setCheck slot (some d), 0)
  else
    match c.openShare with
    | none => .error .anchored
    | some k =>
      if (c.share k).due + delta < 0 then .error .anchored
      else
        let e := d.setShare k ((c.share k).charge delta deltaNet)
        .ok (((p.setCheck slot (some e)).shareChanged e causeDelta [k] none).evaluate slot,
          if c.anchored ∧ delta ≠ 0 then k else 0)

/-- The distribution of a change on a check under a rule plan: the dues are worked out again (R35). -/
def Part.distributePlan (p : Part) (slot : Nat) (c d : Check) : Except Result (Part × Nat) := do
  let figures ← recompute p.venue d.plan d.totals d.lines
  let e := d.storeFigures c.plan.count figures
  .ok ((p.setCheck slot (some e)).shareChanged e causeRecomputed (changedShares c e) none, 0)

/-- A change of the lines or the covers is tested and taken: steps 3 to 5 of R34. -/
def Part.takeChange (p : Part) (slot : Nat) (c : Check) (lines : List Line) (covers : Nat) : Except Result (Part × Nat) := do
  ensure (!negativeBase lines) .negativeBase
  let totals := workTotals p.venue covers lines
  ensure (!totals.overLimit) .limit
  let d := { c with lines := lines, covers := covers, totals := totals }
  if c.frozen then p.distributeFixed slot c d else p.distributePlan slot c d

/-! ### SET_PLAN (R57 to R59) -/

/-- The plan kind a request's code names (R55, R58). -/
def planKindOf : Nat → Option PlanKind
  | 0 => some .none
  | 1 => some .even
  | 2 => some .byItem
  | 3 => some .amount
  | _ => none

/-- The given amounts of a SET_PLAN body (R58). -/
def Frame.givenAmounts (f : Frame) (count : Nat) : List Nat :=
  (List.range count).map fun i => f.field (4 + 4 * i) 4

/-- The fields of SET_PLAN lie in their ranges; the plan they name (R58, check 1). -/
def Frame.planAsked (f : Frame) : Option Plan :=
  let n := f.field 3 1
  match planKindOf (f.field 2 1) with
  | some .none => if n = 1 then some { kind := .none, count := 1, given := [] } else none
  | some .amount =>
    let given := f.givenAmounts (n - 1)
    if within 1 16 n && given.all (fun a => decide (a ≤ Config.amountMax)) then
      some { kind := .amount, count := n, given := given }
    else none
  | some kind => if within 1 16 n then some { kind := kind, count := n, given := [] } else none
  | none => none

/-- The share sets under a plan set by SET_PLAN: every line's is {1..n} under BY_ITEM, absent otherwise (R57). -/
def Plan.resetSets (plan : Plan) (lines : List Line) : List Line :=
  lines.map fun l => { l with shareSet := if plan.kind = .byItem then some (fullSet plan.count) else none }

/-- A share as the replies to SET_PLAN list it (R59). -/
def planReplyEntry (c : Check) (k : Nat) : List Byte :=
  let s := c.share k
  leBytes 4 s.due ++ leBytes 4 s.preTax ++ leBytes 2 s.revision.toNat

/-- SET_PLAN: its checks in order, then its effect (R58, R59); a check under FIXED takes none (R52, R62). -/
def setPlanRequest (f : Frame) (p : Part) : Handled := do
  let terminal := f.sender
  let number := f.field 0 2
  let plan ← orRefuse f.planAsked .badField
  let (slot, c) ← orRefuse (p.findCheck number) .noCheck
  ensure (p.holdsWhole terminal number) .notClaimed
  ensure (!c.frozen) .anchored
  ensure (decide (c.flight = 0)) .settling
  ensure (!c.tenders.any fun t => decide (t.state = .unknown) && decide (plan.count < t.share)) .planConflict
  let lines := plan.resetSets c.lines
  let figures ← recompute p.venue plan c.totals lines
  let d := { c with plan := plan, lines := lines }.storeFigures c.plan.count figures
  let q := (p.setCheck slot (some d)).renewLeases terminal number
  .ok (q, some (leBytes 4 d.totals.total ++ leBytes 1 plan.kind.code ++ leBytes 1 plan.count
    ++ (d.shareIndices.map (planReplyEntry d)).flatten))

/-! ### ASSIGN_LINE (R60) -/

/-- The lines with one line's share set replaced. -/
def assignSet (lines : List Line) (number : Nat) (set : BitVec 16) : List Line :=
  lines.map fun l => if l.number = number then { l with shareSet := some set } else l

/-- A share as the reply to ASSIGN_LINE lists it (R60). -/
def assignReplyEntry (c : Check) (k : Nat) : List Byte :=
  leBytes 4 (c.share k).due ++ leBytes 2 (c.share k).revision.toNat

/-- ASSIGN_LINE: its checks in order, then its effect (R60); a check under FIXED refuses it ANCHORED (R62). -/
def assignLineRequest (f : Frame) (p : Part) : Handled := do
  let terminal := f.sender
  let number := f.field 0 2
  let lineNumber := f.field 2 1
  let set := f.field 3 2
  ensure (within 1 Config.linesPerCheck lineNumber && decide (set ≠ 0)) .badField
  let (slot, c) ← orRefuse (p.findCheck number) .noCheck
  ensure (p.holdsWhole terminal number) .notClaimed
  ensure (!c.frozen) .anchored
  ensure (decide (c.flight = 0)) .settling
  ensure (decide (c.plan.kind = .byItem)) .planConflict
  ensure (c.lines.any fun l => decide (l.number = lineNumber) && l.live) .badField
  ensure (decide (set < 2 ^ c.plan.count)) .badField
  let lines := assignSet c.lines lineNumber (BitVec.ofNat 16 set)
  let figures ← recompute p.venue c.plan c.totals lines
  let d := { c with lines := lines }.storeFigures c.plan.count figures
  let q := (p.setCheck slot (some d)).renewLeases terminal number
  .ok (q, some (leBytes 4 d.totals.total ++ leBytes 1 d.plan.count ++ (d.shareIndices.map (assignReplyEntry d)).flatten))

/-! ### VIEW_SHARE (R61) -/

/-- The reply to VIEW_SHARE (R61). -/
def Part.viewShareReply (p : Part) (c : Check) (k : Nat) : List Byte :=
  let s := c.share k
  leBytes 1 k ++ leBytes 1 s.state.code ++ leBytes 4 s.due ++ leBytes 4 s.preTax ++ leBytes 4 s.applied
    ++ leBytes 4 s.tips ++ leSigned 2 s.rounding ++ leSigned 4 s.remaining ++ leBytes 2 s.revision.toNat
    ++ leBytes 2 (p.holderOf c.number k) ++ leBytes 1 c.plan.kind.code ++ [flagByte s.portions.isSome]
    ++ ((List.range 8).map fun i => leBytes 4 ((s.portions.map fun v => v[i]?.getD 0).getD 0)).flatten
    ++ leBytes 1 (c.tenders.countP fun t => t.share == k && t.state.accepted)

/-- VIEW_SHARE: its checks in order, then the reply and the renewed leases (R61, R97). -/
def viewShareRequest (f : Frame) (p : Part) : Handled := do
  let number := f.field 0 2
  let k := f.field 2 1
  ensure (within 1 Config.shareRecords k) .badField
  let (_, c) ← orRefuse (p.findCheck number) .noCheck
  ensure (decide (k ≤ c.plan.count)) .badField
  .ok (p.renewLeases f.sender number, some (p.viewShareReply c k))

end Sys2Proof.Machine
end

