-- ==== Sys2Proof/Machine/Checks.lean ====
section
/-! DEFINITION. Machine/Checks.lean: the Check Table (03): opening, changing, presenting, closing, discarding and reading a
check. -/

namespace Sys2Proof.Machine

/-! ### OPEN_CHECK (R33) -/

/-- The figures of a check with no line (R33). -/
def Totals.zero : Totals where
  bases := tabulate 8 fun _ => 0
  itemNet := 0
  taxes := tabulate 8 fun _ => 0
  service := 0
  total := 0

/-- A check as OPEN_CHECK fills its slot (R33, R52, R55). -/
def Check.fresh (number table covers : Nat) (now : Time) : Check where
  number := number
  table := table
  covers := covers
  state := .opened
  lines := []
  totals := .zero
  plan := { kind := .none, count := 1, given := [] }
  shares := tabulate 16 fun _ => .blank 0
  tenders := []
  openedAt := now
  presentedAt := none
  anchoredAt := none
  settledAt := none
  dwell := 0
  alerted := false

/-- OPEN_CHECK: its checks in order, then its effect (R27, R33). -/
def openCheckRequest (f : Frame) (p : Part) : Handled := do
  let number := f.field 0 2
  let table := f.field 2 2
  let covers := f.field 4 1
  ensure (within 1 65535 number && within 1 999 table && within 1 40 covers) .badField
  ensure (p.findCheck number).isNone .checkExists
  let slot ← orRefuse (firstFree p.checks) .tableFull
  .ok (p.setCheck slot (some (.fresh number table covers p.now)), some (timeBytes p.now))

/-! ### ADD_LINE, VOID_LINE, SET_COVERS and MOVE_CHECK (R34, R37 to R40) -/

/-- The line kind a code names (R37). -/
def lineKindOf : Nat → Option LineKind
  | 0 => some .item
  | 1 => some .discount
  | _ => none

/-- The code of a line kind (R37). -/
def LineKind.code : LineKind → Nat
  | .item => 0
  | .discount => 1

/-- A unit price lies in the range of its kind (R30). -/
def LineKind.allows : LineKind → Int → Bool
  | .item, price => decide (0 ≤ price) && decide (price ≤ 999999)
  | .discount, price => decide (-999999 ≤ price) && decide (price ≤ -1)

/-- The line that ADD_LINE appends (R30, R37, R57). -/
def newLine (f : Frame) (kind : LineKind) (c : Check) : Line where
  number := c.lines.length + 1
  kind := kind
  code := BitVec.ofNat 32 (f.field 3 4)
  cls := f.field 7 1
  price := f.signedField 8 4
  quantity := f.field 12 1
  amount := lineAmount (f.signedField 8 4) (f.field 12 1)
  live := true
  shareSet := if c.plan.kind = .byItem then some (fullSet c.plan.count) else none

/-- ADD_LINE: its own checks, then R34 (R37). -/
def addLineRequest (f : Frame) (p : Part) : Handled := do
  let kind ← orRefuse (lineKindOf (f.field 2 1)) .badField
  ensure (decide (f.field 7 1 ≤ 7) && within 1 99 (f.field 12 1) && kind.allows (f.signedField 8 4)) .badField
  let (slot, c) ← orRefuse (p.findCheck (f.field 0 2)) .noCheck
  ensure (decide (c.flight = 0)) .settling
  ensure (decide (c.lines.length < Config.linesPerCheck)) .lineLimit
  ensure (decide (p.linesInUse < Config.linePool)) .poolFull
  let line := newLine f kind c
  let (q, share) ← p.takeChange slot c (c.lines ++ [line]) c.covers
  let total := ((q.checkAt slot).map fun d => d.totals.total).getD 0
  .ok (q, some (leBytes 1 line.number ++ leBytes 4 total ++ leBytes 1 share))

/-- The lines with one line VOIDED (R38). -/
def voidLineIn (lines : List Line) (number : Nat) : List Line :=
  lines.map fun l => if l.number = number then { l with live := false } else l

/-- VOID_LINE: its checks in order, then R34 (R38). -/
def voidLineRequest (f : Frame) (p : Part) : Handled := do
  let number := f.field 2 1
  ensure (within 1 Config.linesPerCheck number) .badField
  let (slot, c) ← orRefuse (p.findCheck (f.field 0 2)) .noCheck
  let line ← orRefuse (c.lines.find? fun l => decide (l.number = number)) .badField
  if !line.live then .ok (p, some (leBytes 4 c.totals.total ++ leBytes 1 0))
  else do
    ensure (decide (c.flight = 0)) .settling
    let (q, share) ← p.takeChange slot c (voidLineIn c.lines number) c.covers
    let total := ((q.checkAt slot).map fun d => d.totals.total).getD 0
    .ok (q, some (leBytes 4 total ++ leBytes 1 share))

/-- SET_COVERS: its own checks, then R34 (R39). -/
def setCoversRequest (f : Frame) (p : Part) : Handled := do
  let covers := f.field 2 1
  ensure (within 1 40 covers) .badField
  let (slot, c) ← orRefuse (p.findCheck (f.field 0 2)) .noCheck
  ensure (decide (c.flight = 0)) .settling
  let (q, share) ← p.takeChange slot c c.lines covers
  let total := ((q.checkAt slot).map fun d => d.totals.total).getD 0
  .ok (q, some (leBytes 4 total ++ leBytes 1 share))

/-- MOVE_CHECK (R40). -/
def moveCheckRequest (f : Frame) (p : Part) : Handled := do
  let table := f.field 2 2
  ensure (within 1 999 table) .badField
  let (slot, c) ← orRefuse (p.findCheck (f.field 0 2)) .noCheck
  .ok (p.setCheck slot (some { c with table := table }), some (leBytes 2 c.table))

/-! ### PRESENT (R41) -/

/-- The check as PRESENT leaves it: an OPEN check becomes PRESENTED now, a PRESENTED one keeps its stamp (R41). -/
def Check.present (c : Check) (now : Time) : Check :=
  match c.state with
  | .opened => { c with state := .presented, presentedAt := some now }
  | .presented | .settling | .settled => c

/-- PRESENT, from the order server or a terminal; the order server holds no claim, so it renews no lease (R41). -/
def presentRequest (f : Frame) (p : Part) : Handled := do
  let number := f.field 0 2
  let (slot, c) ← orRefuse (p.findCheck number) .noCheck
  ensure (!c.anchored) .anchored
  let d := c.present p.now
  .ok ((p.setCheck slot (some d)).renewLeases f.sender number, some (leBytes 4 d.totals.total ++ stampBytes d.presentedAt))

/-! ### CLOSE_CHECK and DISCARD_CHECK (R44 to R46) -/

/-- An entry loses its tender reference when it names the slot (R46, R147). -/
def EntryCell.orphan (e : EntryCell) (slot : Nat) : EntryCell :=
  { e with use := e.use.map fun x => if x.tender.any (fun r => decide (r.slot = slot)) then { x with tender := none } else x }

/-- Every entry whose tender reference names the slot becomes an orphan (R46, R147). -/
def Part.orphanSlot (p : Part) (slot : Nat) : Part :=
  { p with entries := tabulate 48 fun i => (p.entryCell i).orphan slot }

/-- A check slot is freed: its claims are released with CLAIM_LOST, its entries orphaned, its records cleared (R46). -/
def Part.freeSlot (p : Part) (slot : Nat) (c : Check) (cause : Nat) : Part :=
  ((p.loseOnCheck c.number cause).orphanSlot slot).setCheck slot none

/-- A check that CLOSE_CHECK may close (R44, check 2). -/
def Check.closable (c : Check) : Bool :=
  match c.state with
  | .settled => true
  | .opened | .presented => decide (c.totals.total = 0) && !c.tenders.any fun t => t.state.accepted
  | .settling => false

/-- CLOSE_CHECK (R44). -/
def closeCheckRequest (f : Frame) (p : Part) : Handled := do
  let (slot, c) ← orRefuse (p.findCheck (f.field 0 2)) .noCheck
  ensure c.closable .notSettled
  .ok (p.freeSlot slot c causeClosed, some (leBytes 4 c.totals.total ++ stampBytes c.settledAt))

/-- DISCARD_CHECK (R45). -/
def discardCheckRequest (f : Frame) (p : Part) : Handled := do
  let (slot, c) ← orRefuse (p.findCheck (f.field 0 2)) .noCheck
  ensure (!c.tenders.any fun t => t.state.accepted) .hasTenders
  ensure (decide (c.flight = 0)) .settling
  .ok (p.freeSlot slot c causeDiscarded, some (leBytes 4 c.totals.total))

/-! ### READ_CHECK (R47 to R49) -/

/-- The checks of READ_CHECK, and the check it reads (R47). -/
def Part.readTarget (p : Part) (f : Frame) : Except Result Check := do
  ensure (decide (f.field 2 1 ≤ 3) && (decide (f.field 2 1 = 0) || decide (1 ≤ f.field 3 1))) .badField
  let (_, c) ← orRefuse (p.findCheck (f.field 0 2)) .noCheck
  .ok c

/-- The bytes of eight class figures. -/
def classBytes (figures : Vector Nat 8) : List Byte := (figures.toList.map fun n => leBytes 4 n).flatten

/-- The presence byte of a check's stamps (R47). -/
def Check.stampPresence (c : Check) : Nat :=
  c.presentedAt.isSome.toNat + 2 * c.anchoredAt.isSome.toNat + 4 * c.settledAt.isSome.toNat

/-- The fields of a section 0 reply after the section (R47). -/
def Check.summary (c : Check) : List Byte :=
  leBytes 2 c.table ++ leBytes 1 c.covers ++ leBytes 1 c.state.code ++ [flagByte c.anchored]
    ++ leBytes 1 c.plan.kind.code ++ leBytes 1 c.plan.count
    ++ leBytes 1 c.lines.length ++ leBytes 1 c.tenders.length ++ leBytes 1 c.flight
    ++ classBytes c.totals.bases ++ leBytes 4 c.totals.itemNet ++ classBytes c.totals.taxes
    ++ leBytes 4 c.totals.service ++ leBytes 4 c.totals.total
    ++ timeBytes c.openedAt ++ stampBytes c.presentedAt ++ stampBytes c.anchoredAt ++ stampBytes c.settledAt
    ++ leBytes 1 c.stampPresence ++ leBytes 2 c.dwell ++ [flagByte c.alerted]

/-- A line entry of READ_CHECK and of the preservation image (R48, R185). -/
def Line.bytes (l : Line) : List Byte :=
  leBytes 1 l.number ++ leBytes 1 l.kind.code ++ leBytes 1 l.cls ++ [flagByte (!l.live)] ++ leBytes 4 l.code.toNat
    ++ leSigned 4 l.price ++ leBytes 1 l.quantity ++ leBytes 2 (l.shareSet.getD 0).toNat

/-- A share entry of READ_CHECK (R49). -/
def Check.shareEntry (c : Check) (k : Nat) : List Byte :=
  let s := c.share k
  leBytes 1 k ++ leBytes 1 s.state.code ++ leBytes 4 s.due ++ leBytes 4 s.preTax ++ leBytes 4 s.applied
    ++ leBytes 4 s.tips ++ leSigned 2 s.rounding ++ leBytes 2 s.revision.toNat

/-- A tender entry of READ_CHECK; the code or the reason of a late mark belongs to its DEFERRING tender (R49, R107; log
entry 31). -/
def Tender.entry (t : Tender) : List Byte :=
  leBytes 1 t.id ++ leBytes 1 t.share ++ leBytes 1 t.payment.code ++ leBytes 1 t.state.code ++ leBytes 2 t.terminal
    ++ leBytes 4 t.amount ++ leBytes 4 t.payment.tip ++ leBytes 4 t.payment.tendered ++ leBytes 4 t.payment.change
    ++ leSigned 2 t.payment.rounding ++ leBytes 1 t.state.keptReason ++ t.state.keptCode
    ++ leBytes 2 t.payment.suffix

/-- The reply to READ_CHECK: the three common fields less OK, then a run of entries from the first index with its count
(R47 to R49). -/
def readRun (f : Frame) (limit : Nat) (entries : List (List Byte)) : List Byte :=
  let run := (entries.drop (f.field 3 1 - 1)).take limit
  leBytes 2 (f.field 0 2) ++ leBytes 1 (f.field 2 1) ++ leBytes 1 run.length ++ run.flatten

/-- READ_CHECK of section 0 (R47). -/
def readSummaryRequest (f : Frame) (p : Part) : Handled := do
  let c ← p.readTarget f
  .ok (p, some (leBytes 2 c.number ++ leBytes 1 0 ++ c.summary))

/-- READ_CHECK of section 1, up to 16 lines (R48). -/
def readLinesRequest (f : Frame) (p : Part) : Handled := do
  let c ← p.readTarget f
  .ok (p, some (readRun f 16 (c.lines.map fun l => l.bytes)))

/-- READ_CHECK of section 2, up to 8 shares (R49). -/
def readSharesRequest (f : Frame) (p : Part) : Handled := do
  let c ← p.readTarget f
  .ok (p, some (readRun f 8 (c.shareIndices.map c.shareEntry)))

/-- READ_CHECK of section 3, up to 6 tenders (R49). -/
def readTendersRequest (f : Frame) (p : Part) : Handled := do
  let c ← p.readTarget f
  .ok (p, some (readRun f 6 (c.tenders.map fun t => t.entry)))

/-! ### LOOKUP (R50, R51) -/

/-- A share entry of LOOKUP; its holder is the terminal whose claim covers the share (R50, R93; DEDUCED, log entry 11). -/
def Part.lookupShare (p : Part) (c : Check) (k : Nat) : List Byte :=
  let s := c.share k
  leBytes 1 k ++ leBytes 4 s.due ++ leSigned 4 s.remaining ++ leBytes 1 s.state.code ++ leBytes 2 s.revision.toNat
    ++ leBytes 2 (p.holderOf c.number k)

/-- The reply to LOOKUP by check number (R50). -/
def Part.lookupReply (p : Part) (c : Check) : List Byte :=
  leBytes 2 c.number ++ leBytes 2 c.table ++ leBytes 1 c.covers ++ leBytes 1 c.state.code ++ [flagByte c.anchored]
    ++ leBytes 1 c.plan.kind.code ++ leBytes 1 c.plan.count ++ leBytes 4 c.totals.total
    ++ leBytes 2 (p.wholeHolder c.number) ++ (c.shareIndices.map (p.lookupShare c)).flatten

/-- LOOKUP by check number: it changes no check, share or claim, and renews the requester's leases (R50, R97). -/
def lookupRequest (f : Frame) (p : Part) : Handled := do
  let number := f.field 0 2
  let (_, c) ← orRefuse (p.findCheck number) .noCheck
  .ok (p.renewLeases f.sender number, some (p.lookupReply c))

/-- A check put in its place by ascending check number. -/
def placeByNumber (c : Check) : List Check → List Check
  | [] => [c]
  | d :: rest => if c.number < d.number then c :: d :: rest else d :: placeByNumber c rest

/-- The open checks at a table, in ascending check number (R51). -/
def Part.checksAtTable (p : Part) (table : Nat) : List Check :=
  (((inUse p.checks).map fun x => x.2).filter fun c => c.table == table).foldr placeByNumber []

/-- A check entry of LOOKUP by table (R51). -/
def tableEntry (c : Check) : List Byte := leBytes 2 c.number ++ leBytes 1 c.state.code ++ leBytes 4 c.totals.total

/-- LOOKUP by table (R51). -/
def lookupByTableRequest (f : Frame) (p : Part) : Handled := do
  let table := f.field 2 2
  ensure (within 1 999 table) .badField
  let found := p.checksAtTable table
  ensure (!found.isEmpty) .noCheck
  .ok (p, some (leBytes 2 table ++ leBytes 1 found.length ++ ((found.take 16).map tableEntry).flatten))

end Sys2Proof.Machine
end

