-- ==== Sys2Proof/Machine/Tenders.lean ====
section
/-! DEFINITION. Machine/Tenders.lean: the Tender Unit (07): the outcome of a card tender, leaving flight, the offline
decision's effect on a tender, and the requests on tenders. -/

namespace Sys2Proof.Machine

/-! ### Changing a tender -/

/-- The state of a tender is replaced. -/
def Part.setTenderState (p : Part) (slot id : Nat) (state : TenderState) : Part :=
  match p.checkAt slot with
  | some c => p.setCheck slot (some (c.updateTender id fun t => { t with state := state }))
  | none => p

/-- A terminal's in-flight flag is set or cleared (R23). -/
def Part.setInFlight (p : Part) (terminal : Nat) (flag : Bool) : Part :=
  let e := p.terminal terminal
  p.setTerminal terminal { e with inFlight := flag }

/-! ### The outcome of a card tender (R113) -/

/-- The fields of the outcome that follow OK (R113). -/
def outcomeFields (c : Check) (t : Tender) : List Byte :=
  let s := c.share t.share
  leBytes 2 c.number ++ leBytes 1 t.id ++ leBytes 1 t.state.code ++ leBytes 1 t.share ++ leBytes 4 t.amount
    ++ leBytes 4 t.payment.tip ++ t.state.shownCode ++ leBytes 1 t.state.shownReason ++ leSigned 4 s.remaining
    ++ leBytes 2 s.revision.toNat ++ leBytes 1 c.state.code

/-- The outcome as a REPLY frame with the tag of the PAY_CARD request (R113). -/
def outcomeFrame (c : Check) (t : Tender) : Frame where
  kind := kindReply
  tag := t.requestTag
  terminal := BitVec.ofNat 16 t.terminal
  body := leBytes 1 0 ++ outcomeFields c t

/-- The outcome is produced as a late reply, with the figures that stand now (R113, R116). -/
def Part.sendOutcome (p : Part) (slot id : Nat) : Part :=
  match p.checkAt slot with
  | none => p
  | some c =>
    match c.tender id with
    | none => p
    | some t => p.lateReply t.terminal (outcomeFrame c t)

/-- A tender leaves flight for a state other than DEFERRING: the flag is cleared, an accepted tender is accepted, the claim
is unpinned, the evaluation runs, the outcome goes out (R116). The flight count follows from the tender's state. -/
def Part.leaveFlight (p : Part) (slot id : Nat) (state : TenderState) : Part :=
  match p.checkAt slot with
  | none => p
  | some c =>
    match c.tender id with
    | none => p
    | some t =>
      let q := (p.setTenderState slot id state).setInFlight t.terminal false
      let q := if state.accepted then q.accept slot id (some t.terminal) else q
      ((q.unpin t.terminal c.number).evaluate slot).sendOutcome slot id

/-! ### The offline decision on a tender (R112, R114, R138) -/

/-- What the offline decision hands to the journal (R154); `table` is the table where the card was taken (R40, R147; log
entry 12, DEDUCED). -/
def offlineContents (c : Check) (table : Nat) (t : Tender) (now : Time) (token : List Byte) : SlotContents where
  check := c.number
  table := table
  terminal := t.terminal
  tender := t.id
  amount := t.amount
  tip := t.payment.tip
  stamp := now
  token := token

/-- The offline decision for a tender in flight, its card taken at a table: DEFERRING with a reserved slot, or FAILED and out
of flight (R114, R138). -/
def Part.decideOffline (p : Part) (slot : Nat) (c : Check) (table : Nat) (t : Tender) (eligible : Bool) (token : List Byte) :
    Part :=
  if p.acceptsOffline t.authAmount eligible then
    let (reserved, q) := p.reserve (offlineContents c table t p.now token)
    q.setTenderState slot t.id (.deferring reserved .none)
  else p.leaveFlight slot t.id .failed

/-! ### PAY_CARD (R110 to R112) -/

/-- The card tender that a PAY_CARD creates (R107, R111). -/
def cardTender (f : Frame) (c : Check) (tip : Nat) (state : TenderState) : Tender where
  id := c.tenders.length + 1
  share := f.field 2 1
  terminal := f.sender
  payment := .card tip (f.field 15 2)
  amount := f.field 5 4
  state := state
  requestTag := f.tag

/-- The check with a tender appended to its list (R108). -/
def Check.appendTender (c : Check) (t : Tender) : Check := { c with tenders := c.tenders ++ [t] }

/-- A tender that goes in flight at its request: the flag is set, the covering claim pinned, the requester's other leases
renewed (R111, steps 3 and 4). The flight count follows from the tender's state. -/
def Part.enterFlight (p : Part) (terminal number k : Nat) : Part :=
  (((p.setInFlight terminal true).pin terminal number k)).renewLeases terminal number

/-- The LIVE entry of a PAY_CARD (R111). -/
def liveEntry (f : Frame) (slot : Nat) (c : Check) (t : Tender) : Entry where
  kind := .live (bytesAt f.body 18 (f.field 17 1)) (decide (f.field 14 1 = 1))
  state := .queued
  tender := some { slot := slot, id := t.id }
  report := { check := c.number, table := c.table, terminal := t.terminal, tender := t.id }
  amount := t.authAmount

/-- A PAY_CARD is carried out while AL is SETTLING or UP (R111). -/
def Part.payOnline (p : Part) (f : Frame) (slot : Nat) (c : Check) (tip : Nat) : Part :=
  let t := cardTender f c tip .authorizing
  ((p.setCheck slot (some (c.appendTender t))).takeEntry (liveEntry f slot c t) p.authTime).enterFlight f.sender c.number
    t.share

/-- A PAY_CARD is carried out while AL is DOWN: the offline decision is taken at once (R112). -/
def Part.payOffline (p : Part) (f : Frame) (slot : Nat) (c : Check) (tip : Nat) : Part × Option (List Byte) :=
  let failed := cardTender f c tip .failed
  if p.acceptsOffline failed.authAmount (decide (f.field 14 1 = 1)) then
    let (reserved, q) := p.reserve (offlineContents c c.table failed p.now (bytesAt f.body 18 (f.field 17 1)))
    let t := { failed with state := .deferring reserved .none }
    ((q.setCheck slot (some (c.appendTender t))).enterFlight f.sender c.number t.share, none)
  else
    let d := c.appendTender failed
    ((p.setCheck slot (some d)).renewLeases f.sender c.number, some (outcomeFields d failed))

/-- The fields that check 8 of PAY_CARD tests (R110). -/
def Frame.cardFieldsOk (f : Frame) : Bool :=
  within 16 64 (f.field 17 1) && decide (f.field 9 1 ≤ 2)
    && (if f.field 9 1 = 0 then decide (f.field 10 4 ≤ Config.amountMax) else decide (f.field 10 4 ≤ 100000))
    && decide (f.field 14 1 ≤ 1) && decide (f.field 15 2 ≤ 9999)

/-- The terminal has neither a tender in flight nor a held reply (R23). -/
def Part.mayTender (p : Part) (terminal : Nat) : Bool :=
  !(p.terminal terminal).inFlight && (p.terminal terminal).held.isNone

/-- A tender record can be taken for the check (R108). -/
def Part.tenderRoom (p : Part) (c : Check) : Bool :=
  decide (c.tenders.length < Config.tendersPerCheck) && decide (p.tendersInUse < Config.tenderPool)

/-- The checks that PAY_CARD and PAY_CASH share: the requester may tender, the check is open, the claim covers the share,
the share is in the list, the revision is the share's, the share is not PAID (R110 and R119, checks 1 to 6; an index of 0
is log entry 13's, DEDUCED). -/
def Part.payTarget (p : Part) (f : Frame) : Except Result (Nat × Check) := do
  let number := f.field 0 2
  let k := f.field 2 1
  ensure (p.mayTender f.sender) .busy
  let (slot, c) ← orRefuse (p.findCheck number) .noCheck
  ensure (p.holdsCover f.sender number k) .notClaimed
  ensure (within 1 c.plan.count k) .badField
  ensure (decide (f.field 3 2 = (c.share k).revision.toNat)) .stale
  ensure (!(c.share k).paid) .sharePaid
  .ok (slot, c)

/-- PAY_CARD: its checks in order, then its effect (R110 to R112). -/
def payCardRequest (f : Frame) (p : Part) : Handled := do
  let (slot, c) ← p.payTarget f
  let s := c.share (f.field 2 1)
  let amount := f.field 5 4
  ensure (decide (amount ≠ 0)) .badField
  ensure (decide ((amount : Int) ≤ s.remaining)) .overTender
  ensure f.cardFieldsOk .badField
  let tip := workTip (f.field 9 1) (f.field 10 4) amount s
  ensure (tipWithin p.venue s tip) .tipLimit
  ensure (decide (amount + tip ≤ Config.amountMax)) .limit
  ensure (p.tenderRoom c) .tenderFull
  if p.alState = .down then .ok (p.payOffline f slot c tip)
  else do
    ensure p.entryFree .busyAuth
    .ok (p.payOnline f slot c tip, none)

/-! ### PAY_CASH (R119, R120) -/

/-- The cash tender that a PAY_CASH creates (R120). -/
def cashTender (f : Frame) (c : Check) (split : CashSplit) : Tender where
  id := c.tenders.length + 1
  share := f.field 2 1
  terminal := f.sender
  payment := .cash (f.field 5 4) split.change split.rounding
  amount := split.applied
  state := .cashAccepted
  requestTag := f.tag

/-- The share and check fields that end several replies: remaining amount, revision, check state. -/
def Part.shareTail (p : Part) (slot k : Nat) : List Byte :=
  match p.checkAt slot with
  | some c => leSigned 4 (c.share k).remaining ++ leBytes 2 (c.share k).revision.toNat ++ leBytes 1 c.state.code
  | none => []

/-- PAY_CASH: its checks in order, then its effect (R119, R120). -/
def payCashRequest (f : Frame) (p : Part) : Handled := do
  let (slot, c) ← p.payTarget f
  let k := f.field 2 1
  let tendered := f.field 5 4
  ensure (within 1 Config.amountMax tendered) .badField
  ensure (p.tenderRoom c) .tenderFull
  let s := c.share k
  let split := sortCash s.remaining.toNat (unitFor p.venue s) tendered
  let t := cashTender f c split
  let q := ((p.setCheck slot (some (c.appendTender t))).accept slot t.id (some f.sender)).renewLeases f.sender c.number
  .ok (q, some (leBytes 1 t.id ++ leBytes 4 split.applied ++ leSigned 2 split.rounding ++ leBytes 4 split.change
    ++ q.shareTail slot k))

/-! ### VOID_TENDER (R121, R122) -/

/-- A state that VOID_TENDER may void (R109). -/
def TenderState.voidable : TenderState → Bool
  | .approved _ | .deferred _ | .cashAccepted => true
  | .authorizing | .deferring _ _ | .declined _ | .failed | .reversed | .unknown | .lateDeclined => false

/-- What a void starts outside the share, by the state the tender left (R122). The REVERSAL entry reports the table where the check
stands at the void (DESIGN CHOICE, log entry 53). -/
def Part.voidOutside (p : Part) (slot : Nat) (c : Check) (t : Tender) : Part :=
  match t.state with
  | .approved code =>
    p.takeEntry
      { kind := .reversal code .authorization 0, state := .queued, tender := some { slot := slot, id := t.id },
        report := { check := c.number, table := c.table, terminal := t.terminal, tender := t.id }, amount := t.authAmount }
      p.lateTime
  | .deferred journalSlot => p.voidPending journalSlot
  | _ => p

/-- The check with a tender REVERSED and its money out of its share (R64, R122). -/
def Check.reverseTender (c : Check) (t : Tender) : Check :=
  (c.updateTender t.id fun x => { x with state := .reversed }).setShare t.share ((c.share t.share).leave t)

/-- VOID_TENDER: its checks in order, then its effect (R121, R122). -/
def voidTenderRequest (f : Frame) (p : Part) : Handled := do
  let terminal := f.sender
  let number := f.field 0 2
  let id := f.field 2 1
  ensure (within 1 Config.tendersPerCheck id) .badField
  let (slot, c) ← orRefuse (p.findCheck number) .noCheck
  let t ← orRefuse (c.tender id) .noTender
  ensure (p.holdsCover terminal number t.share) .notClaimed
  ensure (decide (c.flight = 0)) .settling
  ensure t.state.voidable .notVoidable
  ensure (decide (t.state.code ≠ 2) || p.entryFree) .busyAuth
  let d := c.reverseTender t
  let q := ((p.setCheck slot (some d)).voidOutside slot c t).evaluate slot
  let q := (q.shareChanged d causeVoid [t.share] (some terminal)).renewLeases terminal number
  .ok (q, some (leBytes 1 id ++ leBytes 1 TenderState.reversed.code ++ leBytes 1 t.share ++ q.shareTail slot t.share))

/-! ### TENDER_STATUS (R123) -/

/-- TENDER_STATUS with check number 0: the requester's tender in flight and its held-reply slot (R123). -/
def tenderStatusFlightRequest (f : Frame) (p : Part) : Handled :=
  let held := [flagByte (p.terminal f.sender).held.isSome]
  match p.findTender fun t => decide (t.terminal = f.sender) && t.state.inFlight with
  | some (_, c, t) => .ok (p, some (leBytes 2 c.number ++ leBytes 1 t.id ++ leBytes 1 t.state.code ++ held))
  | none => .ok (p, some (leBytes 2 0 ++ leBytes 1 0 ++ leBytes 1 0 ++ held))

/-- A tender entry of TENDER_STATUS; a change above 65,535 is reported as 65,535 (R123). The tip of a cash tender is reported
as 0 (DESIGN CHOICE, log entry 46). -/
def Tender.statusEntry (t : Tender) : List Byte :=
  leBytes 1 t.id ++ leBytes 1 t.share ++ leBytes 1 t.payment.code ++ leBytes 1 t.state.code ++ leBytes 4 t.amount
    ++ leBytes 4 t.payment.tip ++ t.state.shownCode ++ leBytes 1 t.state.shownReason
    ++ leBytes 2 (min t.payment.change 65535)

/-- TENDER_STATUS naming a check: the requester's own tenders on it (R123). -/
def tenderStatusRequest (f : Frame) (p : Part) : Handled := do
  let number := f.field 0 2
  let first := f.field 2 1
  ensure (within 1 Config.tendersPerCheck first) .badField
  let (_, c) ← orRefuse (p.findCheck number) .noCheck
  let own := c.tenders.filter fun t => decide (t.terminal = f.sender) && decide (first ≤ t.id)
  .ok (p.renewLeases f.sender number,
    some (leBytes 2 number ++ leBytes 1 own.length ++ ((own.take 10).map fun t => t.statusEntry).flatten))

/-! ### RESOLVE_TENDER (R124, R125) -/

/-- The checks of RESOLVE_TENDER that both resolutions share, and the tender it names (R124, checks 1 to 5). -/
def Part.resolveTarget (p : Part) (f : Frame) : Except Result (Nat × Check × Tender) := do
  let id := f.field 2 1
  ensure (within 1 Config.tendersPerCheck id && within 1 2 (f.field 3 1)) .badField
  let (slot, c) ← orRefuse (p.findCheck (f.field 0 2)) .noCheck
  let t ← orRefuse (c.tender id) .noTender
  ensure (decide (t.state = .unknown)) .notVoidable
  ensure (decide (c.flight = 0)) .settling
  .ok (slot, c, t)

/-- The reply to RESOLVE_TENDER (R125). -/
def Part.resolveReply (p : Part) (slot : Nat) (t : Tender) (state : TenderState) : List Byte :=
  leBytes 1 state.code ++ p.shareTail slot t.share

/-- RESOLVE_TENDER with resolution ACCEPT (R124, R125). -/
def resolveAcceptRequest (f : Frame) (p : Part) : Handled := do
  let (slot, c, t) ← p.resolveTarget f
  ensure (within 1 c.plan.count t.share && decide ((t.amount : Int) ≤ (c.share t.share).remaining)) .overTender
  let state := TenderState.approved (bytesAt f.body 4 6)
  let q := (p.setTenderState slot t.id state).accept slot t.id none
  .ok (q, some (q.resolveReply slot t state))

/-- RESOLVE_TENDER with resolution REVERSE (R124, R125). -/
def resolveReverseRequest (f : Frame) (p : Part) : Handled := do
  let (slot, _, t) ← p.resolveTarget f
  let q := p.setTenderState slot t.id .reversed
  .ok (q, some (q.resolveReply slot t .reversed))

end Sys2Proof.Machine
end

