-- ==== Sys2Proof/Machine/Gateway.lean ====
section
/-! DEFINITION. Machine/Gateway.lean: the Authorization Unit's side of AL (08): the link state and its timers, the answers
of the gateway, the expiries of entries and link timers, and the transmit arbiter. -/

namespace Sys2Proof.Machine

/-! ### The link state (R131 to R133) -/

/-- The alive timeout in force (R131). -/
def Part.aliveTime (p : Part) : Time := seconds p.venue.aliveTimeout

/-- The settle interval in force (R131). -/
def Part.settleTime (p : Part) : Time := seconds p.venue.settleInterval

/-- The causes of AL_STATE (R133). -/
def causeFirstFrame : Nat := 1
def causeSettled : Nat := 2
def causeAliveExpired : Nat := 3
def causeDrainFault : Nat := 4

/-- The AL state changes, with its notice (R133). -/
def Part.changeAl (p : Part) (new : AlState) (cause : Nat) : Part :=
  Part.notice { p with alState := new } noticeAlState
    (leBytes 1 new.code ++ leBytes 1 p.alState.code ++ leBytes 1 cause)

/-- What a valid gateway frame does to the link state and its timers (R131). -/
def Part.alHeard (p : Part) : Part :=
  match p.alState with
  | .down =>
    let q := p.arm .alAlive p.aliveTime
    if p.venue.settleInterval = 0 then q.changeAl .up causeFirstFrame
    else (q.arm .alSettle p.settleTime).changeAl .settling causeFirstFrame
  | .settling | .up => p.rearm .alAlive p.aliveTime

/-- A drain fault (R132). -/
def Part.drainFault (p : Part) : Part :=
  match p.alState with
  | .up =>
    if p.venue.settleInterval = 0 then p else (p.arm .alSettle p.settleTime).changeAl .settling causeDrainFault
  | .settling => p.rearm .alSettle p.settleTime
  | .down => p

/-! ### Taking a gateway frame (R4, R130) -/

/-- A gateway frame is well formed: its length, its result and, for a declined authorization, its reason (R130). -/
def Frame.answerOk (f : Frame) : Bool :=
  if f.kind = kindAuthReply then
    f.hasLength 10 && (decide (f.field 2 1 = 0) || (decide (f.field 2 1 = 1) && within 1 99 (f.field 9 1)))
  else if f.kind = kindSubmitReply then f.hasLength 3 && decide (f.field 2 1 ≤ 1)
  else if f.kind = kindLinkAlive then f.hasLength 0
  else f.hasLength 2

/-- A gateway frame that has left the queue: one with a terminal number is counted, one before READY is discarded, one
that is malformed is counted, and a valid one moves the link timers and is handed to its handler (R4, R130, R131; the order
of the first two is log entry 7's, DESIGN CHOICE). -/
def Part.takeAnswer (p : Part) (f : Frame) (handler : Frame → Part → Part) : Part :=
  if f.terminal ≠ 0 then p.countFraming .al
  else if p.control.startup ≠ .ready then p
  else if f.answerOk then handler f p.alHeard
  else p.countFraming .al

/-! ### References (R129) -/

/-- The reference of an entry (R129). -/
def Part.reference (p : Part) (i : Nat) : Nat := i + 256 * (p.entryCell i).generation.toNat

/-- The entry that an answer matches, of a kind and state that fit it (R129). -/
def Part.matched (p : Part) (f : Frame) (fits : Entry → Bool) : Option (Nat × Entry) :=
  let i := f.field 0 1
  if i < Config.authEntries ∧ (p.entryCell i).generation.toNat = f.field 1 1 then
    ((p.entryCell i).use.filter fits).map fun x => (i, x)
  else none

/-- An answer is handed to the entry it matches; one that matches none is counted (R129). -/
def Part.answer (p : Part) (f : Frame) (fits : Entry → Bool) (act : Nat → Entry → Part → Part) : Part :=
  match p.matched f fits with
  | some (i, x) => act i x p
  | none => { p with staleReplies := saturate Config.counterMax p.staleReplies }

/-- An entry kind is LIVE. -/
def EntryKind.isLive : EntryKind → Bool
  | .live _ _ => true
  | .drain _ _ | .reversal _ _ _ => false

/-- An entry kind is REVERSAL. -/
def EntryKind.isReversal : EntryKind → Bool
  | .reversal _ _ _ => true
  | .live _ _ | .drain _ _ => false

/-- The entry is SENT. -/
def Entry.sent (x : Entry) : Bool := decide (x.state = .sent)

/-- The entry is in WATCH. -/
def Entry.watching (x : Entry) : Bool := decide (x.state = .watch)

/-! ### Exceptions raised on an entry (R140, R144, R145, R165) -/

/-- An exception with an entry's report fields and auth amount (R165). -/
def Entry.exception (x : Entry) (kind detail : Nat) : ExceptionEntry :=
  { ExceptionEntry.plain kind detail with
    check := x.report.check, table := x.report.table, terminal := x.report.terminal, tender := x.report.tender,
    amount := x.amount }

/-- The sequence and the stamp of a mirrored journal slot, for an exception that concerns it (R165). -/
def Part.slotFields (p : Part) (slot : Nat) (e : ExceptionEntry) : ExceptionEntry :=
  match p.journal.slotAt slot with
  | some s => { e with sequence := some s.sequence, slotStamp := s.contents.stamp }
  | none => e

/-! ### AUTH_REPLY (R139, R140) -/

/-- The approval code of an AUTH_REPLY that approves; none when it declines (R130). -/
def Frame.approval (f : Frame) : Option (List Byte) :=
  if f.field 2 1 = 0 then some (bytesAt f.body 3 6) else none

/-- The decline reason of an AUTH_REPLY (R130). -/
def Frame.reason (f : Frame) : Nat := f.field 9 1

/-- The tender's new state under an answer in time (R114, R139). -/
def Frame.verdict (f : Frame) : TenderState :=
  match f.approval with
  | some code => .approved code
  | none => .declined f.reason

/-- The answer in time to a SENT LIVE entry (R139). -/
def Part.answerInTime (p : Part) (f : Frame) (i : Nat) (x : Entry) : Part :=
  let q :=
    match p.tenderOf x with
    | some (slot, _, t) => p.leaveFlight slot t.id f.verdict
    | none => p
  q.freeEntry i

/-- The late mark that a late reply leaves on a DEFERRING tender (R140). -/
def Frame.lateMark (f : Frame) : LateMark :=
  match f.approval with
  | some code => .confirmed code
  | none => .declined f.reason

/-- A late reply to a DEFERRED tender: the slot is voided, and the tender is APPROVED, or LATE_DECLINED with an exception
(R118, R140). -/
def Part.lateOnDeferred (p : Part) (f : Frame) (x : Entry) (slot id journalSlot : Nat) : Part :=
  match f.approval with
  | some code => (p.setTenderState slot id (.approved code)).voidPending journalSlot
  | none =>
    ((p.setTenderState slot id .lateDeclined).voidPending journalSlot).raise
      (p.slotFields journalSlot (x.exception exceptionDeclinedAfterAccept 0))

/-- A late approval that nothing wants turns the entry into a REVERSAL, and a decline frees it (R140, R143). -/
def Part.lateUnwanted (p : Part) (f : Frame) (i : Nat) (x : Entry) : Part :=
  match f.approval with
  | some code => p.convertEntry i x code .authorization 0
  | none => p.freeEntry i

/-- The late reply to a LIVE entry in WATCH (R140). -/
def Part.answerLate (p : Part) (f : Frame) (i : Nat) (x : Entry) : Part :=
  match p.tenderOf x with
  | none => p.lateUnwanted f i x
  | some (slot, _, t) =>
    match t.state with
    | .deferring journalSlot _ => (p.setTenderState slot t.id (.deferring journalSlot f.lateMark)).freeEntry i
    | .deferred journalSlot => (p.lateOnDeferred f x slot t.id journalSlot).freeEntry i
    | .authorizing | .approved _ | .declined _ | .failed | .cashAccepted | .reversed | .unknown | .lateDeclined =>
      p.lateUnwanted f i x

/-- AUTH_REPLY (R129, R139, R140). -/
def Part.authReply (p : Part) (f : Frame) : Part :=
  p.answer f (fun x => x.kind.isLive && (x.sent || x.watching)) fun i x q =>
    if x.sent then q.answerInTime f i x else q.answerLate f i x

/-! ### REVERSAL_REPLY (R144) -/

/-- REVERSAL_REPLY (R129, R144). -/
def Part.reversalReply (p : Part) (f : Frame) : Part :=
  p.answer f (fun x => x.kind.isReversal && !x.watching) fun i _ q => q.freeEntry i

/-! ### SUBMIT_REPLY (R145) -/

/-- The approval code of a tender whose submission was approved: "000000" (R118, R143). -/
def submissionCode : List Byte := List.replicate 6 0x30#8

/-- The tender of an entry becomes another state, when it is DEFERRED (R118, R145). -/
def Part.settleDeferred (p : Part) (x : Entry) (state : TenderState) : Part :=
  match p.tenderOf x with
  | some (slot, _, t) =>
    match t.state with
    | .deferred _ => p.setTenderState slot t.id state
    | .authorizing | .deferring _ _ | .approved _ | .declined _ | .failed | .cashAccepted | .reversed | .unknown
    | .lateDeclined => p
  | none => p

/-- A submission of a slot that is still PENDING is answered (R145, the first two rows). -/
def Part.submitPending (p : Part) (x : Entry) (slot : Nat) (approved : Bool) : Part :=
  if approved then (p.settleDeferred x (.approved submissionCode)).voidPending slot
  else
    ((p.settleDeferred x .lateDeclined).voidPending slot).raise
      (p.slotFields slot (x.exception exceptionDeferredDeclined 0))

/-- The tender of an entry is REVERSED. -/
def Part.tenderReversed (p : Part) (x : Entry) : Bool :=
  match p.tenderOf x with
  | some (_, _, t) => decide (t.state = .reversed)
  | none => false

/-- A SUBMIT_REPLY for a DRAIN entry (R145, R159). -/
def Part.answerSubmission (p : Part) (f : Frame) (i : Nat) (x : Entry) (slot : Nat) (sequence : BitVec 32) : Part :=
  let approved := decide (f.field 2 1 = 0)
  if p.journal.stillPending slot sequence then (p.submitPending x slot approved).freeEntry i
  else if approved && p.tenderReversed x then p.convertEntry i x submissionCode .submission sequence
  else p.freeEntry i

/-- SUBMIT_REPLY (R129, R145). -/
def Part.submitReply (p : Part) (f : Frame) : Part :=
  p.answer f (fun x => x.kind.isDrain && (x.sent || x.watching)) fun i x q =>
    match x.kind with
    | .drain slot sequence => q.answerSubmission f i x slot sequence
    | .live _ _ | .reversal _ _ _ => q

/-! ### GATEWAY_ERROR (R141) -/

/-- The offline decision for the tender of a LIVE entry, whose report fields name the table where the card was taken (R40,
R137, R138, R141, R147). -/
def Part.decideEntry (p : Part) (x : Entry) (eligible : Bool) (token : List Byte) : Part :=
  match p.tenderOf x with
  | some (slot, c, t) => p.decideOffline slot c x.report.table t eligible token
  | none => p

/-- A SENT entry returns to QUEUED at the tail of the send queue (R141). -/
def Part.requeue (p : Part) (i : Nat) (x : Entry) : Part := (p.setUse i (some { x with state := .queued })).queueEntry i

/-- GATEWAY_ERROR (R129, R141). -/
def Part.gatewayError (p : Part) (f : Frame) : Part :=
  p.answer f Entry.sent fun i x q =>
    match x.kind with
    | .live token eligible => (q.decideEntry x eligible token).freeEntry i
    | .reversal _ _ _ => q.requeue i x
    | .drain _ _ => (q.freeEntry i).drainFault

/-! ### Expiries (R131, R137, R142, R144, R146) -/

/-- The expiry of an authorization entry of a kind and state that fit is delivered (R172). -/
def Part.expireEntry (p : Part) (fits : Entry → Bool) (act : Nat → Entry → Part → Part) : Part :=
  match p.dueOwner with
  | some (.auth i generation) =>
    if (p.entryCell i).generation = generation then
      match (p.entryCell i).use.filter fits with
      | some x => act i x p.deliver
      | none => p
    else p
  | some (.claimLease _) | some .alAlive | some .alSettle | some .calGuard | none => p

/-- A LIVE entry's timeout: the offline decision, then the entry is freed when QUEUED and watched when SENT (R137). -/
def Part.liveTimeout (p : Part) : Part :=
  p.expireEntry (fun x => x.kind.isLive && !x.watching) fun i x q =>
    match x.kind with
    | .live token eligible =>
      let q := q.decideEntry x eligible token
      if x.sent then q.watchEntry i x else q.freeEntry i
    | .drain _ _ | .reversal _ _ _ => q

/-- The late window of an entry in WATCH ends: the entry is freed (R142). -/
def Part.watchExpiry (p : Part) : Part := p.expireEntry Entry.watching fun i _ q => q.freeEntry i

/-- A DRAIN entry's timeout in SENT: it goes to WATCH, and a drain fault is taken (R146). -/
def Part.drainTimeout (p : Part) : Part :=
  p.expireEntry (fun x => x.kind.isDrain && x.sent) fun i x q => (q.watchEntry i x).drainFault

/-- The exception of a REVERSAL entry that expires (R144, R165). -/
def Entry.reversalException (x : Entry) (code : List Byte) (source : Source) (sequence : BitVec 32) : ExceptionEntry :=
  { x.exception (if x.sent then exceptionReversalUnconfirmed else exceptionReversalUnsent) source.code with
    code := some code, sequence := if source = .submission then some sequence else none }

/-- A REVERSAL entry's late window ends: the entry is freed, with an exception (R144). -/
def Part.reversalExpiry (p : Part) : Part :=
  p.expireEntry (fun x => x.kind.isReversal) fun i x q =>
    match x.kind with
    | .reversal code source sequence => (q.freeEntry i).raise (x.reversalException code source sequence)
    | .live _ _ | .drain _ _ => q

/-- The alive deadline expires: the link goes DOWN (R131). -/
def Part.alAliveExpiry (p : Part) : Part :=
  if p.dueOwner = some .alAlive then
    match p.alState with
    | .settling | .up => (p.deliver.cancel .alSettle).changeAl .down causeAliveExpired
    | .down => p.deliver
  else p

/-- The settle deadline expires: a SETTLING link is UP (R131). -/
def Part.alSettleExpiry (p : Part) : Part :=
  if p.dueOwner = some .alSettle then
    match p.alState with
    | .settling => p.deliver.changeAl .up causeSettled
    | .up | .down => p.deliver
  else p

/-! ### The transmit arbiter (R130, R134, R136) -/

/-- The body of an entry's request frame (R130); a DRAIN entry's frame is built from its slot. -/
def Part.requestBody (p : Part) (i : Nat) (x : Entry) : List Byte :=
  match x.kind with
  | .live token _ => leBytes 2 (p.reference i) ++ leBytes 4 x.amount ++ leBytes 1 token.length ++ token
  | .reversal code source sequence =>
    leBytes 2 (p.reference i) ++ leBytes 1 source.code ++ code ++ leBytes 4 x.amount ++ leBytes 4 sequence.toNat
  | .drain _ _ => []

/-- The kind of an entry's request frame (R130). -/
def EntryKind.requestKind : EntryKind → Byte
  | .live _ _ => kindAuthRequest
  | .reversal _ _ _ => kindReversalRequest
  | .drain _ _ => kindSubmitDeferred

/-- A request frame on AL: its tag and its terminal field are 0 (R130). -/
def alFrame (kind : Byte) (body : List Byte) : Frame := { kind := kind, tag := 0, terminal := 0, body := body }

/-- A queued entry is sent: its frame enters the AL outbound queue, it leaves the send queue and becomes SENT; its
deadline is left as it was (R134, R135). -/
def Part.sendEntry (p : Part) (i : Nat) (x : Entry) : Part :=
  ((p.unqueueEntry i).setUse i (some { x with state := .sent })).enqueue .al
    (alFrame x.kind.requestKind (p.requestBody i x))

/-- The oldest entry of the send queue whose kind passes a test (R134). -/
def Part.oldestQueued (p : Part) (ofKind : EntryKind → Bool) : Option (Nat × Entry) :=
  p.sendQueue.findSome? fun i => ((p.entryCell i).use.filter fun x => ofKind x.kind).map fun x => (i, x)

/-- The queued entry that the arbiter chooses while AL is SETTLING or UP: the oldest REVERSAL, else the oldest LIVE
(R134). -/
def Part.queuedCandidate (p : Part) : Option (Nat × Entry) :=
  match p.alState with
  | .down => none
  | .settling | .up => (p.oldestQueued EntryKind.isReversal).or (p.oldestQueued EntryKind.isLive)

/-- The DRAIN entry of a new submission of a slot (R136). -/
def Part.drainEntry (p : Part) (slot : Nat) (s : Slot) : Entry where
  kind := .drain slot s.sequence
  state := .sent
  tender := (p.findTender fun t => decide (t.state = .deferred slot)).map fun x => { slot := x.1, id := x.2.2.id }
  report := { check := s.contents.check, table := s.contents.table, terminal := s.contents.terminal,
              tender := s.contents.tender }
  amount := s.contents.authAmount

/-- The body of SUBMIT_DEFERRED, built from the mirrored slot when its entry is taken (R130). -/
def submitBody (reference : Nat) (s : Slot) : List Byte :=
  leBytes 2 reference ++ leBytes 4 s.sequence.toNat ++ leBytes 4 s.contents.amount ++ leBytes 4 s.contents.tip
    ++ leBytes 1 s.contents.token.length ++ s.contents.token

/-- A new submission may be started, but for the slot it needs (R136). -/
def Part.drainAllowed (p : Part) : Bool :=
  decide (p.alState = .up) && p.sendQueue.isEmpty && decide (p.entriesSent EntryKind.isDrain < p.venue.drainShare)
    && decide (Config.freeForDrain ≤ p.freeList.length)

/-- A new submission, when one can be started: its entry is taken, SENT at once, and its frame enters the AL outbound
queue (R136). -/
def Part.startSubmission (p : Part) : Part :=
  match p.drainAllowed, p.freeList, p.slotForDrain with
  | true, i :: _, some (slot, s) =>
    (p.takeEntry (p.drainEntry slot s) p.authTime).enqueue .al
      (alFrame kindSubmitDeferred (submitBody (p.reference i) s))
  | _, _, _ => p

/-- The arbiter may grant: READY, the window open, a place in the AL outbound queue (R134). -/
def Part.grantOpen (p : Part) : Bool :=
  decide (p.control.startup = .ready) && decide (p.entriesSent (fun _ => true) < p.venue.window)
    && decide (0 < p.freePlaces .al)

/-- One grant of the transmit arbiter; without a candidate nothing happens (R134; DESIGN CHOICE, log entry 5). -/
def Part.arbiterGrant (p : Part) : Part :=
  if p.grantOpen then
    match p.queuedCandidate with
    | some (i, x) => p.sendEntry i x
    | none => p.startSubmission
  else p

end Sys2Proof.Machine
end

