-- ==== Sys2Proof/Machine/ClockCommands.lean ====
section
/-! DEFINITION. Machine/ClockCommands.lean: the meanings of the clock commands and of the expiries (10, R172). -/

namespace Sys2Proof.Machine

/-- SERVICE_CLOCK_TICK (R168, R169). -/
def execServiceClockTick (s : State) : Host.Outcome State Fault Refusal :=
  act Part.clockTick s

/-- WHOLE_SECOND (R176). -/
def execWholeSecond (s : State) : Host.Outcome State Fault Refusal :=
  act Part.wholeSecond s

/-- REFPPS_EDGE (R174). -/
def execRefppsEdge (s : State) : Host.Outcome State Fault Refusal :=
  act Part.refppsEdge s

/-- CLAIM_LEASE_EXPIRY (R98). -/
def execClaimLeaseExpiry (s : State) : Host.Outcome State Fault Refusal :=
  act Part.claimLeaseExpiry s

/-- LIVE_TIMEOUT (R137). -/
def execLiveTimeout (s : State) : Host.Outcome State Fault Refusal :=
  act Part.liveTimeout s

/-- WATCH_EXPIRY (R142). -/
def execWatchExpiry (s : State) : Host.Outcome State Fault Refusal :=
  act Part.watchExpiry s

/-- DRAIN_TIMEOUT (R146). -/
def execDrainTimeout (s : State) : Host.Outcome State Fault Refusal :=
  act Part.drainTimeout s

/-- REVERSAL_EXPIRY (R144). -/
def execReversalExpiry (s : State) : Host.Outcome State Fault Refusal :=
  act Part.reversalExpiry s

/-- AL_ALIVE_EXPIRY (R131). -/
def execAlAliveExpiry (s : State) : Host.Outcome State Fault Refusal :=
  act Part.alAliveExpiry s

/-- AL_SETTLE_EXPIRY (R131). -/
def execAlSettleExpiry (s : State) : Host.Outcome State Fault Refusal :=
  act Part.alSettleExpiry s

/-- CAL_GUARD_EXPIRY (R174). -/
def execCalGuardExpiry (s : State) : Host.Outcome State Fault Refusal :=
  act Part.calGuardExpiry s

end Sys2Proof.Machine
end

