-- ==== Sys2Proof/Machine/GatewayCommands.lean ====
section
/-! DEFINITION. Machine/GatewayCommands.lean: the meanings of the gateway frames taken from AL, and of the transmit arbiter (08). -/

namespace Sys2Proof.Machine

/-- ARBITER_GRANT (R134, R136). -/
def execArbiterGrant (s : State) : Host.Outcome State Fault Refusal :=
  act Part.arbiterGrant s

/-- AUTH_REPLY (R139, R140). -/
def execAuthReply (s : State) : Host.Outcome State Fault Refusal :=
  act (fun p => p.serveGateway (ofKind kindAuthReply) fun f q => q.takeAnswer f fun f q => q.authReply f) s

/-- REVERSAL_REPLY (R144). -/
def execReversalReply (s : State) : Host.Outcome State Fault Refusal :=
  act (fun p => p.serveGateway (ofKind kindReversalReply) fun f q => q.takeAnswer f fun f q => q.reversalReply f) s

/-- SUBMIT_REPLY (R145). -/
def execSubmitReply (s : State) : Host.Outcome State Fault Refusal :=
  act (fun p => p.serveGateway (ofKind kindSubmitReply) fun f q => q.takeAnswer f fun f q => q.submitReply f) s

/-- GATEWAY_ERROR (R141). -/
def execGatewayError (s : State) : Host.Outcome State Fault Refusal :=
  act (fun p => p.serveGateway (ofKind kindGatewayError) fun f q => q.takeAnswer f fun f q => q.gatewayError f) s

/-- LINK_ALIVE (R131). -/
def execLinkAlive (s : State) : Host.Outcome State Fault Refusal :=
  act (fun p => p.serveGateway (ofKind kindLinkAlive) fun f q => q.takeAnswer f fun _ q => q) s

end Sys2Proof.Machine
end

