-- ==== Sys2Proof/Machine/Receivers.lean ====
section
/-! DEFINITION. Machine/Receivers.lean: the Link Unit's receivers and transmitters (01): bytes in, frames out, held replies
and notices that move. -/

namespace Sys2Proof.Machine

/-! ### The receiver (R2, R3, R5) -/

/-- The least and the greatest length field of a frame (01, "Frame format"). -/
def lengthMin : Nat := 6
/-- The greatest length field of a frame. -/
def lengthMax : Nat := 297

/-- The sync byte. -/
def syncByte : Byte := 0xA5#8

/-- FRAMING_ERRORS increases by one (R2). -/
def LinkState.countFraming (x : LinkState) : LinkState :=
  { x with framingErrors := saturate Config.counterMax x.framingErrors }

/-- The receiver returns to HUNT (R2); a run of non-sync bytes that has not been counted begins. -/
def LinkState.hunt (x : LinkState) : LinkState := { x with receiver := .hunt false }

/-- A valid frame is offered to the inbound queue (R5). -/
def LinkState.offer (x : LinkState) (f : Frame) : LinkState :=
  if x.inbound.length < Config.inboundPlaces then { x with inbound := x.inbound ++ [f] }
  else { x with overruns := saturate Config.counterMax x.overruns }

/-- The frame that the bytes after a length field spell, when its check value agrees (R3). -/
def frameOf (length : Nat) (got : List Byte) : Option Frame :=
  let covered := got.take (length - 2)
  if fieldAt got (length - 2) 2 = (crc16 (leBytes 2 length ++ covered)).toNat then
    some { kind := got.getD 0 0, tag := got.getD 1 0, terminal := BitVec.ofNat 16 (fieldAt got 2 2),
           body := covered.drop 4 }
  else none

/-- A frame is complete: it is offered to the inbound queue, or discarded and counted (R3). -/
def LinkState.complete (x : LinkState) (length : Nat) (got : List Byte) : LinkState :=
  match frameOf length got with
  | some f => x.hunt.offer f
  | none => { x.hunt with crcErrors := saturate Config.counterMax x.crcErrors }

/-- The byte `b` arrives at the service clock `now` and does not complete a frame (R2). -/
def LinkState.receive (x : LinkState) (now : Time) (b : Byte) : LinkState :=
  match x.receiver with
  | .hunt counted =>
    if b = syncByte then { x with receiver := .header none now }
    else if counted then x
    else { x.countFraming with receiver := .hunt true }
  | .header none _ => { x with receiver := .header (some b) now }
  | .header (some low) _ =>
    let length := leValue [low, b]
    if within lengthMin lengthMax length then { x with receiver := .body length [] now }
    else x.countFraming.hunt
  | .body length got _ => { x with receiver := .body length (got ++ [b]) now }

/-- The next byte completes the frame: its length, and the bytes before it. -/
def LinkState.completing (x : LinkState) : Option (Nat × List Byte) :=
  match x.receiver with
  | .body length got _ => if got.length + 1 = length then some (length, got) else none
  | .hunt _ | .header _ _ => none

/-- A byte that completes a frame arrives on link `l` while the part runs; any other byte is not this command's (R2, R3;
DESIGN CHOICE, log entry 5). However long after the last byte it arrives, it completes the frame unless INTER_BYTE_TIMEOUT came
first (DESIGN CHOICE, log entry 44). -/
def Part.frameComplete (p : Part) (l : Link) (b : Byte) : Part :=
  if p.control.startup.running then
    match (p.link l).completing with
    | some (length, got) => p.setLink l ((p.link l).complete length (got ++ [b]))
    | none => p
  else p

/-- A byte that does not complete a frame arrives on link `l` while the part runs (R2; DESIGN CHOICE, log entry 5). A byte that
arrives 20 ms or more after the last one continues the partial frame unless INTER_BYTE_TIMEOUT came first (DESIGN CHOICE, log
entry 44). -/
def Part.byteReceived (p : Part) (l : Link) (b : Byte) : Part :=
  if p.control.startup.running then
    match (p.link l).completing with
    | some _ => p
    | none => p.setLink l ((p.link l).receive p.now b)
  else p

/-- A byte with a stop-bit error arrives (R2). -/
def Part.stopBitError (p : Part) (l : Link) : Part :=
  if p.control.startup.running then p.setLink l (p.link l).countFraming.hunt else p

/-- The service clock at the last byte of the partial frame, while one is being assembled (R2). -/
def LinkState.lastByte (x : LinkState) : Option Time :=
  match x.receiver with
  | .hunt _ => none
  | .header _ last => some last
  | .body _ _ last => some last

/-- 20 ms have passed since the last byte of a partial frame: it is dropped and counted (R2). -/
def Part.interByteTimeout (p : Part) (l : Link) : Part :=
  match (p.link l).lastByte with
  | some last =>
    if p.control.startup.running ∧ Config.interByteLimit ≤ (p.now - last).toNat then
      p.setLink l (p.link l).countFraming.hunt
    else p
  | none => p

/-! ### A frame whose kind its link does not accept (R4) -/

/-- The command that takes a frame whose kind its link does not accept (R4; DESIGN CHOICE, log entry 5). -/
def Part.takeUnaccepted (p : Part) (l : Link) : Part :=
  match p.takable l with
  | some f => if (Link.accepts l).contains f.kind then p else p.refuseKind l f
  | none => p

/-! ### The transmitter (R10, R15) -/

/-- The transmitter's links run: from LOADING to SAVING; in HALTED it finishes the frame in progress (R15). -/
def Startup.transmits : Startup → Bool
  | .reset => false
  | .loading | .scanning | .restoring | .ready | .saving | .halted => true

/-- The last byte of the head frame has been sent: it leaves the queue, and the next frame starts while RDY_IN is asserted
and the part is not HALTED (R10, R15). -/
def LinkState.transmitted (x : LinkState) (running : Bool) : LinkState :=
  let rest := x.outbound.tail
  { x with outbound := rest, sending := running && x.rdyIn && !rest.isEmpty }

/-- One frame less stands ahead of the end of the RESTART reply, when the frame left OL (R190). -/
def Part.countReply (p : Part) (l : Link) : Part :=
  if l = .ol then p.setControl { p.control with replyAhead := p.control.replyAhead - 1 } else p

/-- The transmission of the head frame of link `l` ends (R10; DESIGN CHOICE, log entry 5). -/
def Part.frameTransmitted (p : Part) (l : Link) : Part :=
  if p.control.startup.transmits && (p.link l).sending && !(p.link l).outbound.isEmpty then
    (p.setLink l ((p.link l).transmitted p.control.startup.running)).countReply l
  else p

/-- RDY_IN of link `l` takes a level; an idle transmitter with a frame to send starts when it is asserted (R10). -/
def Part.rdyIn (p : Part) (l : Link) (level : Bool) : Part :=
  let x := p.link l
  p.setLink l { x with
    rdyIn := level
    sending := x.sending || (level && p.control.startup.running && !x.outbound.isEmpty) }

/-! ### Held replies and notices that move (R8, R11, R24) -/

/-- Of two held replies with their terminals, the one with the lower hold number (R24). -/
def firstHeld (a b : Nat × HeldReply) : Nat × HeldReply := if later a.2.number b.2.number then b else a

/-- The held replies that wait for terminal link `t`, with their terminals (R8). -/
def Part.heldFor (p : Part) (t : Tl) : List (Nat × HeldReply) :=
  (List.range' 1 Config.terminals).filterMap fun n =>
    let e := p.terminal n
    if e.heard.any fun h => decide (h.link = t) then e.held.map fun r => (n, r) else none

/-- The held reply that moves first into terminal link `t`'s queue (R8, R24). -/
def Part.nextHeld (p : Part) (t : Tl) : Option (Nat × HeldReply) :=
  match p.heldFor t with
  | [] => none
  | x :: rest => some (rest.foldl firstHeld x)

/-- A held reply moves into terminal link `t`'s outbound queue when a place is free; its slot is then empty (R8, R24; log
entry 5). -/
def Part.heldReplyMove (p : Part) (t : Tl) : Part :=
  match p.nextHeld t with
  | some (n, r) =>
    if p.control.startup.running && decide (0 < p.freePlaces (.tl t)) then
      let e := p.terminal n
      (p.setTerminal n { e with held := none }).enqueue (.tl t) r.frame
    else p
  | none => p

/-- The oldest notice of the list moves into the OL outbound queue when it has two free places (R11; DESIGN CHOICE, log entry 5). -/
def Part.noticeMove (p : Part) : Part :=
  match p.noticeList with
  | f :: rest =>
    if p.control.startup.running && decide (2 ≤ p.freePlaces .ol) then
      Part.enqueue { p with noticeList := rest } .ol f
    else p
  | [] => p

end Sys2Proof.Machine
end

