-- ==== Sys2Proof/Machine/LinkCommands.lean ====
section
/-! DEFINITION. Machine/LinkCommands.lean: the meanings of the link commands (01). -/

namespace Sys2Proof.Machine

/-- FRAME_COMPLETE (R3). -/
def execFrameComplete (l : Link) (b : Byte) (s : State) : Host.Outcome State Fault Refusal :=
  act (fun p => p.frameComplete l b) s

/-- INTER_BYTE_TIMEOUT (R2). -/
def execInterByteTimeout (l : Link) (s : State) : Host.Outcome State Fault Refusal :=
  act (fun p => p.interByteTimeout l) s

/-- FRAME_TRANSMITTED (R10). -/
def execFrameTransmitted (l : Link) (s : State) : Host.Outcome State Fault Refusal :=
  act (fun p => p.frameTransmitted l) s

/-- HELD_REPLY_MOVE (R8). -/
def execHeldReplyMove (t : Tl) (s : State) : Host.Outcome State Fault Refusal :=
  act (fun p => p.heldReplyMove t) s

/-- NOTICE_MOVE (R11). -/
def execNoticeMove (s : State) : Host.Outcome State Fault Refusal :=
  act Part.noticeMove s

/-- UNACCEPTED_KIND_FRAME (R4). -/
def execUnacceptedKindFrame (l : Link) (s : State) : Host.Outcome State Fault Refusal :=
  act (fun p => p.takeUnaccepted l) s

/-- BYTE_RECEIVED (R2). -/
def execByteReceived (l : Link) (b : Byte) (s : State) : Host.Outcome State Fault Refusal :=
  act (fun p => p.byteReceived l b) s

/-- STOP_BIT_ERROR (R2). -/
def execStopBitError (l : Link) (s : State) : Host.Outcome State Fault Refusal :=
  act (fun p => p.stopBitError l) s

/-- RDY_IN_ASSERTED (R10). -/
def execRdyInAsserted (l : Link) (level : Bool) (s : State) : Host.Outcome State Fault Refusal :=
  act (fun p => p.rdyIn l level) s

end Sys2Proof.Machine
end

