-- ==== Sys2Proof/Machine/Startup.lean ====
section
/-! DEFINITION. Machine/Startup.lean: the start-up states' entries (R179, R184, R189, R190), a configuration that takes force
(R181), and the order server's requests that need no other block: STATUS, READ_EXCEPTIONS, CLEAR_EXCEPTION, RESTART. -/

namespace Sys2Proof.Machine

/-! ### Entering the start-up states -/

/-- The start-up state is replaced. -/
def Part.enter (p : Part) (s : Startup) : Part := p.setControl { p.control with startup := s }

/-- A configuration takes force as one set: its tick divisor is due at the next tick boundary, a download is over, and the
part enters SCANNING with SCAN requested (R168, R179, R181). -/
def Part.takeForce (p : Part) (v : Venue) (source : ConfigSource) (clamped : Bool) : Part :=
  let q := p.setControl { p.control with
    startup := .scanning, venue := v, source := source, clamped := clamped, download := none }
  (q.setClock { q.clockUnit with nextDivisor := some v.tickDivisor }).request .scan

/-- The part waits for a download (R183). -/
def Part.awaitDownload (p : Part) : Part :=
  p.setControl { p.control with download := some { declared := none, staged := [] } }

/-- Entry to LOADING with the straps just sampled; bit 1 is START_MODE1 (R179, R180, R183). -/
def Part.enterLoading (p : Part) (straps : BitVec 2) : Part :=
  let q := p.setControl { p.control with startup := .loading, straps := straps }
  if straps = 0b00#2 then q.takeForce Venue.defaults .defaults false
  else if straps = 0b10#2 then q.awaitDownload
  else q.request .loadConfig

/-- Entry to RESTORING: READ_IMAGE is requested (R179, R184). -/
def Part.enterRestoring (p : Part) : Part := (p.enter .restoring).request .readImage

/-- Entry to SAVING: SAVE_IMAGE is requested (R179, R189). -/
def Part.enterSaving (p : Part) : Part := (p.enter .saving).request .saveImage

/-- A count as one reported byte; a count above 255 is reported as an open byte (DESIGN CHOICE, log entry 4). -/
def Part.countByte (p : Part) (n : Nat) : Byte × Part :=
  if n < 256 then (BitVec.ofNat 8 n, p) else (Config.freeByte p.openBytes, { p with openBytes := p.openBytes + 1 })

/-- The configuration source as START_COMPLETE codes it (R184). -/
def ConfigSource.code : ConfigSource → Nat
  | .defaults => 0
  | .memory => 1
  | .download => 2

/-- The body of START_COMPLETE after the common fields, the count of UNKNOWN tenders given as a byte (R184). -/
def Part.startFields (p : Part) (unknowns : Byte) : List Byte :=
  leBytes 1 p.control.straps.toNat ++ leBytes 1 p.control.source.code ++ [p.flagsByte]
    ++ leBytes 1 p.control.restored ++ leBytes 1 p.control.rejected ++ [unknowns]

/-- Entry to READY: START_COMPLETE is produced; with PFAIL asserted the part passes on to SAVING at once (R179, R184). -/
def Part.enterReady (p : Part) : Part :=
  let (unknowns, q) := p.countByte p.control.unknowns
  let q := (q.enter .ready).notice noticeStartComplete (q.startFields unknowns)
  if q.pfail then q.enterSaving else q

/-- PFAIL takes a level; its assertion is acted on in READY (R179). -/
def Part.pfailLevel (p : Part) (level : Bool) : Part :=
  let q : Part := { p with pfail := level }
  if level ∧ q.control.startup = .ready then q.enterSaving else q

/-- No memory operation is outstanding (R189, R190). -/
def Part.memoryIdle (p : Part) : Bool := p.port.queue.isEmpty && p.port.waiting.isEmpty

/-- SAVING ends in HALTED: the clock stops and a calibration ends without a notice (R169, R175, R179, R189; DESIGN CHOICE, log entry 5). -/
def Part.enterHalted (p : Part) : Part :=
  if p.control.startup = .saving ∧ !p.control.restarting ∧ p.memoryIdle then
    (p.enter .halted).setClock { p.clockUnit with calibration := .idle }
  else p

/-! ### RESTART (R190) -/

/-- RESTART: the OK reply takes the place kept for it at the tail of the OL queue, and the part enters SAVING as for PFAIL
(R190). -/
def restartRequest (_ : Frame) (p : Part) : Handled :=
  .ok ((p.setControl { p.control with restarting := true, replyAhead := (p.link .ol).outbound.length + 1 }).enterSaving,
    some [])

/-! ### STATUS (R13, R14) -/

/-- A link's counters as STATUS reports them; ADVISORIES_LOST is 0 for OL and AL (R14). -/
def LinkState.counterBytes (x : LinkState) (isTerminal : Bool) : List Byte :=
  leBytes 2 x.crcErrors ++ leBytes 2 x.framingErrors ++ leBytes 2 x.overruns
    ++ leBytes 2 (if isTerminal then x.advisoriesLost else 0)

/-- The fields of the STATUS reply after OK (R14). -/
def Part.statusFields (p : Part) : List Byte :=
  leBytes 1 p.control.startup.code ++ leBytes 1 p.alState.code ++ [p.flagsByte]
    ++ leBytes 1 p.checksInUse ++ leBytes 2 p.linesInUse ++ leBytes 2 p.tendersInUse ++ leBytes 1 p.claimsInUse
    ++ leBytes 1 p.entriesInUse ++ leBytes 2 p.journal.occupied ++ leBytes 4 p.journal.deferredTotal
    ++ leBytes 1 p.exceptions.length ++ leBytes 1 p.clockUnit.deadlines.length ++ leBytes 1 p.noticeList.length
    ++ leBytes 1 p.noticesLost ++ leBytes 2 p.reheard ++ leBytes 2 p.staleReplies
    ++ p.links.tl0.counterBytes true ++ p.links.tl1.counterBytes true ++ p.links.tl2.counterBytes true
    ++ p.links.tl3.counterBytes true ++ p.links.ol.counterBytes false ++ p.links.al.counterBytes false

/-- A link with its counters at 0 (R13). -/
def LinkState.clearCounters (x : LinkState) : LinkState :=
  { x with crcErrors := 0, framingErrors := 0, overruns := 0, advisoriesLost := 0 }

/-- Every counter that STATUS reports is set to 0 (R13, R14). -/
def Part.clearCounters (p : Part) : Part :=
  { p with
    links :=
      { tl0 := p.links.tl0.clearCounters, tl1 := p.links.tl1.clearCounters, tl2 := p.links.tl2.clearCounters,
        tl3 := p.links.tl3.clearCounters, ol := p.links.ol.clearCounters, al := p.links.al.clearCounters }
    noticesLost := 0, reheard := 0, staleReplies := 0 }

/-- STATUS (R14). -/
def statusRequest (_ : Frame) (p : Part) : Handled := .ok (p.clearCounters, some p.statusFields)

/-! ### READ_EXCEPTIONS and CLEAR_EXCEPTION (R166, R167) -/

/-- An exception entry as READ_EXCEPTIONS reports it (R166). -/
def ExceptionEntry.bytes (e : ExceptionEntry) : List Byte :=
  leBytes 2 e.number.toNat ++ leBytes 1 e.kind ++ leBytes 2 e.detail ++ leBytes 2 e.check ++ leBytes 2 e.table
    ++ leBytes 2 e.terminal ++ leBytes 1 e.tender ++ leBytes 4 e.amount
    ++ leBytes 4 ((e.sequence.map fun s => s.toNat).getD 0) ++ e.code.getD noCode
    ++ leBytes 1 (e.sequence.isSome.toNat + 2 * e.code.isSome.toNat) ++ timeBytes e.stamp ++ timeBytes e.slotStamp

/-- READ_EXCEPTIONS (R166). -/
def readExceptionsRequest (f : Frame) (p : Part) : Handled := do
  let first := f.field 0 1
  ensure (within 1 Config.exceptionPlaces first && decide (f.field 1 1 ≤ 1)) .badField
  let run := (p.exceptions.drop (first - 1)).take 8
  let q : Part := { p with exceptionsLost := if f.field 1 1 = 1 then 0 else p.exceptionsLost }
  .ok (q, some (leBytes 1 p.exceptions.length ++ leBytes 1 p.exceptionsLost ++ leBytes 1 run.length
    ++ (run.map fun e => e.bytes).flatten))

/-- The list without its oldest entry of a number (R167). -/
def removeException (number : Nat) : List ExceptionEntry → List ExceptionEntry
  | [] => []
  | e :: rest => if e.number.toNat = number then rest else e :: removeException number rest

/-- CLEAR_EXCEPTION (R167). -/
def clearExceptionRequest (f : Frame) (p : Part) : Handled := do
  let number := f.field 0 2
  ensure (p.exceptions.any fun e => decide (e.number.toNat = number)) .badField
  let rest := removeException number p.exceptions
  .ok ({ p with exceptions := rest }, some (leBytes 1 rest.length))

end Sys2Proof.Machine
end

