-- ==== Sys2Proof/Machine/ConfigImage.lean ====
section
/-! DEFINITION. Machine/ConfigImage.lean: the configuration (11): the records' layout (R180, R181), clamping (R182), the end
of LOAD_CONFIG (R180) and the download (R183). -/

namespace Sys2Proof.Machine

/-! ### The VENUE record (R181, R182) -/

/-- A field of the VENUE record: its place, its width and its range (R181). -/
structure VenueField where
  offset : Nat
  width : Nat
  low : Nat
  high : Nat
  deriving DecidableEq, Repr

/-- The field as it stands in the record. -/
def VenueField.raw (g : VenueField) (r : List Byte) : Nat := fieldAt r g.offset g.width

/-- The field clamped to the nearer end of its range (R182). -/
def VenueField.value (g : VenueField) (r : List Byte) : Nat := max g.low (min g.high (g.raw r))

def fieldTaxMode : VenueField := { offset := 1, width := 1, low := 0, high := 1 }
/-- The tax rate of a class. -/
def fieldRate (cls : Nat) : VenueField := { offset := 2 + 2 * cls, width := 2, low := 0, high := 30000 }
def fieldServiceRate : VenueField := { offset := 18, width := 2, low := 0, high := 30000 }
def fieldServiceThreshold : VenueField := { offset := 20, width := 1, low := 0, high := 40 }
def fieldTipCeiling : VenueField := { offset := 22, width := 4, low := 0, high := 100000 }
def fieldClaimLease : VenueField := { offset := 26, width := 2, low := 30, high := 600 }
def fieldAuthTimeout : VenueField := { offset := 28, width := 1, low := 3, high := 60 }
def fieldLateWindow : VenueField := { offset := 29, width := 2, low := 10, high := 600 }
def fieldAliveTimeout : VenueField := { offset := 31, width := 1, low := 1, high := 30 }
def fieldSettleInterval : VenueField := { offset := 32, width := 1, low := 0, high := 120 }
def fieldDuplicateWindow : VenueField := { offset := 33, width := 2, low := 50, high := 2000 }
def fieldDwellThreshold : VenueField := { offset := 35, width := 2, low := 0, high := 3600 }
def fieldFloorLimit : VenueField := { offset := 37, width := 4, low := 0, high := 99999999 }
def fieldOfflineCeiling : VenueField := { offset := 41, width := 4, low := 0, high := 99999999 }
def fieldWindow : VenueField := { offset := 45, width := 1, low := 1, high := 16 }
def fieldDrainShare : VenueField := { offset := 46, width := 1, low := 1, high := 4 }
def fieldHighWater : VenueField := { offset := 47, width := 2, low := 1, high := 512 }
def fieldTickDivisor : VenueField := { offset := 49, width := 2, low := 23280, high := 24720 }

/-- The fields that are clamped to a range; the cash unit has a rule of its own (R181, R182). -/
def venueFields : List VenueField :=
  fieldTaxMode :: (List.range 8).map fieldRate ++
    [fieldServiceRate, fieldServiceThreshold, fieldTipCeiling, fieldClaimLease, fieldAuthTimeout, fieldLateWindow,
      fieldAliveTimeout, fieldSettleInterval, fieldDuplicateWindow, fieldDwellThreshold, fieldFloorLimit,
      fieldOfflineCeiling, fieldWindow, fieldDrainShare, fieldHighWater, fieldTickDivisor]

/-- The allowed cash units, greatest first (R181). -/
def cashUnits : List Nat := [100, 50, 25, 20, 10, 5, 2, 1]

/-- A cash unit clamped: the largest allowed unit not above it, or 1 (R182). -/
def clampUnit (n : Nat) : Nat := (cashUnits.find? fun u => decide (u ≤ n)).getD 1

/-- The offset of the cash unit in the VENUE record (R181). -/
def unitOffset : Nat := 21

/-- A value of the record is changed by clamping (R182). -/
def venueClamped (r : List Byte) : Bool :=
  venueFields.any (fun g => decide (g.value r ≠ g.raw r))
    || decide (clampUnit (fieldAt r unitOffset 1) ≠ fieldAt r unitOffset 1)

/-- The permit list: the 96 bits of bytes 1 to 12 of the PERMIT record, all set without one (R180). -/
def permitsOf (permit : Option (List Byte)) : BitVec 96 :=
  match permit with
  | some r => BitVec.ofNat 96 (fieldAt r 1 12)
  | none => BitVec.allOnes 96

/-- The configuration that a VENUE record and a PERMIT record give, clamped (R180 to R182). -/
def venueOf (r : List Byte) (permit : Option (List Byte)) : Venue where
  inclusive := decide (fieldTaxMode.value r = 1)
  rates := tabulate 8 fun c => (fieldRate c).value r
  serviceRate := fieldServiceRate.value r
  serviceThreshold := fieldServiceThreshold.value r
  cashUnit := clampUnit (fieldAt r unitOffset 1)
  tipCeiling := fieldTipCeiling.value r
  claimLease := fieldClaimLease.value r
  authTimeout := fieldAuthTimeout.value r
  lateWindow := fieldLateWindow.value r
  aliveTimeout := fieldAliveTimeout.value r
  settleInterval := fieldSettleInterval.value r
  duplicateWindow := fieldDuplicateWindow.value r
  dwellThreshold := fieldDwellThreshold.value r
  floorLimit := fieldFloorLimit.value r
  offlineCeiling := fieldOfflineCeiling.value r
  window := fieldWindow.value r
  drainShare := fieldDrainShare.value r
  highWater := fieldHighWater.value r
  tickDivisor := fieldTickDivisor.value r
  permits := permitsOf permit

/-! ### Records (R180, R183) -/

/-- The size of a configuration record. -/
def recordBytes : Nat := 64

/-- The kind of a record: 1 VENUE, 2 PERMIT (R180). -/
def recordKind (r : List Byte) : Nat := fieldAt r 0 1

/-- The first record of a kind. -/
def recordOf (kind : Nat) (records : List (List Byte)) : Option (List Byte) :=
  records.find? fun r => decide (recordKind r = kind)

/-- The records of a configuration take force, clamped (R182, R183). -/
def Part.configure (p : Part) (records : List (List Byte)) (source : ConfigSource) : Part :=
  match recordOf 1 records with
  | some venue => p.takeForce (venueOf venue (recordOf 2 records)) source (venueClamped venue)
  | none => p

/-! ### The configuration image and the end of LOAD_CONFIG (R180) -/

/-- The size of the configuration image's header. -/
def configHeaderBytes : Nat := 16

/-- The marker of the configuration image (R180). -/
def configMarker : List Byte := [0x52#8, 0x43#8, 0x46#8, 0x47#8]

/-- The header of the configuration image in the memory. -/
def Memory.configHeader (m : Memory) : List Byte := m.readAll Config.configBase configHeaderBytes

/-- The record count that the header gives. -/
def Memory.configCount (m : Memory) : Nat := fieldAt m.configHeader 6 1

/-- The records that follow the header. -/
def Memory.configRecords (m : Memory) : List (List Byte) :=
  (List.range m.configCount).map fun i =>
    m.readAll (Config.configBase + configHeaderBytes + recordBytes * i) recordBytes

/-- The configuration image is valid (R180). -/
def Memory.configValid (m : Memory) : Bool :=
  let header := m.configHeader
  let records := m.configRecords
  let kinds := records.map recordKind
  decide (bytesAt header 0 4 = configMarker) && decide (fieldAt header 4 2 = 1) && within 1 2 m.configCount
    && decide (fieldAt header 8 2 = (crc16 (bytesAt header 4 4 ++ records.flatten)).toNat)
    && kinds.all (within 1 2) && decide (kinds.count 1 = 1) && decide (kinds.count 2 ≤ 1)

/-- No valid image was read: in mode MEMORY the defaults take force and CONFIG_DEFAULTED is set; in mode
MEMORY-then-SERVER the part waits for a download (R180). -/
def Part.configMissing (p : Part) : Part :=
  if p.control.straps = 0b01#2 then
    (p.setControl { p.control with defaulted := true }).takeForce Venue.defaults .defaults false
  else p.awaitDownload

/-- LOAD_CONFIG completes (R180). -/
def Part.configLoaded (p : Part) : Part :=
  if p.memory.configValid then p.configure p.memory.configRecords .memory else p.configMissing

/-! ### The download (R183) -/

/-- The download that the part waits for; in READY the request is refused BUSY (R183). -/
def Part.awaited (p : Part) : Except Result Download := orRefuse p.control.download .busy

/-- The download is replaced. -/
def Part.setDownload (p : Part) (d : Download) : Part := p.setControl { p.control with download := some d }

/-- CONFIG_BEGIN (R183). -/
def configBeginRequest (f : Frame) (p : Part) : Handled := do
  let _ ← p.awaited
  let count := f.field 0 1
  ensure (within 1 2 count) .badField
  .ok (p.setDownload { declared := some count, staged := [] }, some [])

/-- CONFIG_RECORD (R183). -/
def configRecordRequest (f : Frame) (p : Part) : Handled := do
  let d ← p.awaited
  let declared ← orRefuse d.declared .badField
  let kind := recordKind f.body
  ensure (within 1 2 kind) .badField
  ensure (recordOf kind d.staged).isNone .badField
  ensure (decide (d.staged.length < declared)) .badField
  let staged := d.staged ++ [f.body]
  .ok (p.setDownload { d with staged := staged }, some (leBytes 1 staged.length))

/-- CONFIG_END (R183). -/
def configEndRequest (_ : Frame) (p : Part) : Handled := do
  let d ← p.awaited
  let declared ← orRefuse d.declared .badField
  ensure (decide (d.staged.length = declared)) .badField
  let venue ← orRefuse (recordOf 1 d.staged) .badField
  .ok (p.configure d.staged .download, some [flagByte (venueClamped venue)])

end Sys2Proof.Machine
end

