-- ==== Sys2Proof/Machine/Image.lean ====
section
/-! DEFINITION. Machine/Image.lean: the preservation image (R185): the bytes a snapshot writes, and the reading of an image
back into records. -/

namespace Sys2Proof.Machine

/-! ### Writing (R185, R189) -/

/-- The four stamps of a check record (R185). -/
def Check.stampFields (c : Check) : List Byte :=
  timeBytes c.openedAt ++ stampBytes c.presentedAt ++ stampBytes c.anchoredAt ++ stampBytes c.settledAt

/-- The 15 given amounts of a check record (R185). -/
def Plan.givenBytes (plan : Plan) : List Byte :=
  ((List.range 15).map fun i => leBytes 4 (plan.given[i]?.getD 0)).flatten

/-- The 168 bytes of a check record (R185). -/
def Check.recordBytes (c : Check) : List Byte :=
  leBytes 2 c.number ++ leBytes 2 c.table ++ leBytes 1 c.covers ++ leBytes 1 c.state.code ++ [flagByte c.anchored]
    ++ leBytes 1 c.plan.kind.code ++ leBytes 1 c.plan.count ++ c.plan.givenBytes
    ++ leBytes 1 c.lines.length ++ leBytes 1 c.tenders.length ++ leBytes 1 c.flight
    ++ classBytes c.totals.bases ++ leBytes 4 c.totals.itemNet ++ classBytes c.totals.taxes
    ++ leBytes 4 c.totals.service ++ leBytes 4 c.totals.total
    ++ c.stampFields ++ leBytes 1 c.stampPresence ++ leBytes 2 c.dwell ++ [flagByte c.alerted]

/-- The 32 bytes of the class portions of a share record, 0 when absent (R185). -/
def portionBytes (portions : Option (Vector Nat 8)) : List Byte :=
  match portions with
  | some v => classBytes v
  | none => List.replicate 32 0

/-- The 54 bytes of a share record (R185). -/
def Check.shareRecord (c : Check) (k : Nat) : List Byte :=
  let s := c.share k
  leBytes 1 k ++ leBytes 4 s.due ++ leBytes 4 s.preTax ++ leBytes 4 s.applied ++ leBytes 4 s.tips
    ++ leSigned 2 s.rounding ++ leBytes 2 s.revision.toNat ++ [flagByte s.portions.isSome] ++ portionBytes s.portions

/-- The late mark's code (R185). -/
def TenderState.savedMark : TenderState → Nat
  | .deferring _ (.confirmed _) => 1
  | .deferring _ (.declined _) => 2
  | _ => 0

/-- The journal slot a tender record saves when there is none (R185). -/
def slotAbsent : Nat := 0xFFFF

/-- The 36 bytes of a tender record (R185). -/
def Tender.recordBytes (t : Tender) : List Byte :=
  leBytes 1 t.id ++ leBytes 1 t.share ++ leBytes 1 t.payment.code ++ leBytes 1 t.state.code ++ leBytes 2 t.terminal
    ++ leBytes 4 t.amount ++ leBytes 4 t.payment.tip ++ leBytes 4 t.payment.tendered ++ leBytes 4 t.payment.change
    ++ leSigned 2 t.payment.rounding ++ t.state.keptCode ++ leBytes 1 t.state.keptReason
    ++ leBytes 1 t.state.savedMark ++ leBytes 2 (t.state.slot.getD slotAbsent) ++ leBytes 2 t.payment.suffix

/-- A saved check: its record, then its lines, its shares 1 to n and its tenders (R185). -/
def Check.savedBytes (c : Check) : List Byte :=
  c.recordBytes ++ (c.lines.map fun l => l.bytes).flatten ++ (c.shareIndices.map c.shareRecord).flatten
    ++ (c.tenders.map fun t => t.recordBytes).flatten

/-- The code of a LIVE entry's tender state, 255 for an orphan (R185). -/
def Part.entryTenderCode (p : Part) (x : Entry) : Nat :=
  match p.tenderOf x with
  | some (_, _, t) => t.state.code
  | none => 255

/-- The 24 bytes of a saved authorization entry, of an entry that is saved: LIVE in WATCH, or REVERSAL (R148, R185). -/
def Part.entryRecord (p : Part) (x : Entry) : Option (List Byte) :=
  let report := leBytes 2 x.report.check ++ leBytes 2 x.report.table ++ leBytes 2 x.report.terminal
    ++ leBytes 1 x.report.tender ++ leBytes 4 x.amount
  match x.kind with
  | .live _ _ =>
    if x.state = .watch then
      some (leBytes 1 0 ++ report ++ leBytes 1 (p.entryTenderCode x) ++ noCode ++ leBytes 1 0 ++ leBytes 4 0)
    else none
  | .reversal code source sequence =>
    some (leBytes 1 1 ++ report ++ leBytes 1 255 ++ code ++ leBytes 1 source.code
      ++ leBytes 4 sequence.toNat)
  | .drain _ _ => none

/-- The saved entries, by index (R148, R185). -/
def Part.savedEntries (p : Part) : List (List Byte) :=
  p.entries.toList.filterMap fun e => e.use.bind p.entryRecord

/-- The BARRED terminals, ascending (R185). -/
def Part.barredTerminals (p : Part) : List Nat :=
  (List.range' 1 Config.terminals).filter fun n => decide ((p.terminal n).state = .barred)

/-- The marker of the preservation image (R184). -/
def imageMarker : List Byte := [0x52#8, 0x50#8, 0x49#8, 0x4D#8]

/-- Offsets 0 to 17 of the header (R185). -/
def imageHead (clock : Time) (checks terminals entries bodyLength : Nat) : List Byte :=
  imageMarker ++ leBytes 2 1 ++ timeBytes clock ++ leBytes 1 checks ++ leBytes 1 terminals ++ leBytes 1 entries
    ++ [0#8] ++ leBytes 4 bodyLength

/-- The 32 bytes of the header of an image with this head and body (R185). -/
def imageHeader (head body : List Byte) : List Byte :=
  head ++ leBytes 2 (crc16 (head ++ body)).toNat ++ List.replicate 12 0

/-- The body of the image of the part as it stands (R185, R189). -/
def Part.imageBody (p : Part) : List Byte :=
  ((inUse p.checks).map fun x => x.2.savedBytes).flatten ++ (p.barredTerminals.map fun n => leBytes 2 n).flatten
    ++ p.savedEntries.flatten

/-- The image of the part as it stands: header and body (R185, R189). -/
def Part.image (p : Part) : List Byte :=
  let body := p.imageBody
  imageHeader (imageHead p.now p.checksInUse p.barredTerminals.length p.savedEntries.length body.length) body ++ body

/-! ### Reading (R184, R185) -/

/-- The image's header in the memory. -/
def Memory.imageHeader (m : Memory) : List Byte := m.readAll Config.imageBase Config.imageHeaderBytes

/-- The marker and the version are right (R184). -/
def imageMarked (header : List Byte) : Bool :=
  decide (bytesAt header 0 4 = imageMarker) && decide (fieldAt header 4 2 = 1)

/-- A marked header is sound: its counts and its body length lie in their ranges (R185). -/
def headerSound (header : List Byte) : Bool :=
  decide (fieldAt header 10 1 ≤ Config.checkSlots) && decide (fieldAt header 11 1 ≤ Config.terminals)
    && decide (fieldAt header 12 1 ≤ Config.authEntries) && decide (fieldAt header 14 4 ≤ Config.imageBodyMax)

/-- The body of the image in the memory. -/
def Memory.imageBody (m : Memory) : List Byte :=
  m.readAll (Config.imageBase + Config.imageHeaderBytes) (fieldAt m.imageHeader 14 4)

/-- A number of records of a size from the front of some bytes, with the bytes that follow them; none when the bytes end
first. -/
def takeRecords (size : Nat) : Nat → List Byte → Option (List (List Byte) × List Byte)
  | 0, bytes => some ([], bytes)
  | count + 1, bytes =>
    if (bytes.take size).length < size then none
    else
      match takeRecords size count (bytes.drop size) with
      | some (records, rest) => some (bytes.take size :: records, rest)
      | none => none

/-- A saved check as records (R185). -/
structure SavedCheck where
  record : List Byte
  lines : List (List Byte)
  shares : List (List Byte)
  tenders : List (List Byte)
  deriving DecidableEq, Repr

/-- One saved check from the front of some bytes (R185). -/
def takeCheck (bytes : List Byte) : Option (SavedCheck × List Byte) := do
  let (records, rest) ← takeRecords 168 1 bytes
  let record := records.getD 0 []
  let (lines, rest) ← takeRecords 15 (fieldAt record 69 1) rest
  let (shares, rest) ← takeRecords 54 (fieldAt record 8 1) rest
  let (tenders, rest) ← takeRecords 36 (fieldAt record 70 1) rest
  some ({ record := record, lines := lines, shares := shares, tenders := tenders }, rest)

/-- A number of saved checks from the front of some bytes. -/
def takeChecks : Nat → List Byte → Option (List SavedCheck × List Byte)
  | 0, bytes => some ([], bytes)
  | count + 1, bytes =>
    match takeCheck bytes with
    | some (c, rest) => (takeChecks count rest).map fun x => (c :: x.1, x.2)
    | none => none

/-- A saved image: the saved clock, the checks, the BARRED terminals and the entries (R185). -/
structure SavedImage where
  clock : Time
  checks : List SavedCheck
  terminals : List Nat
  entries : List (List Byte)
  deriving DecidableEq, Repr

/-- The records of a body; none when they do not fill it exactly (R185). -/
def splitBody (header body : List Byte) : Option SavedImage := do
  let (checks, rest) ← takeChecks (fieldAt header 10 1) body
  let (terminals, rest) ← takeRecords 2 (fieldAt header 11 1) rest
  let (entries, rest) ← takeRecords 24 (fieldAt header 12 1) rest
  if rest.isEmpty then
    some { clock := BitVec.ofNat 32 (fieldAt header 6 4), checks := checks, terminals := terminals.map leValue,
           entries := entries }
  else none

/-- The image that a header and a body give, when the header is sound, the check value agrees and the records fill the
body (R184, R185). -/
def imageOf (header body : List Byte) : Option SavedImage :=
  if headerSound header && decide (fieldAt header 18 2 = (crc16 (header.take 18 ++ body)).toNat) then splitBody header body
  else none

/-- What READ_IMAGE finds when it completes (R184). -/
inductive ImageReading
  | absent
  | rejected
  | sound (image : SavedImage)
  deriving DecidableEq, Repr

/-- What READ_IMAGE finds in the memory (R184, R185). -/
def Memory.readImage (m : Memory) : ImageReading :=
  if imageMarked m.imageHeader then
    match imageOf m.imageHeader m.imageBody with
    | some image => .sound image
    | none => .rejected
  else .absent

end Sys2Proof.Machine
end

