-- ==== Sys2Proof/Machine/Restore.lean ====
section
/-! DEFINITION. Machine/Restore.lean: the restore (11): a saved check read back and validated (R186), its tenders converted
(R187), the terminals and the entries of the image (R188), and the end of READ_IMAGE (R184). -/

namespace Sys2Proof.Machine

/-! ### Reading saved records (R185); a code that names nothing makes the record unreadable (DESIGN CHOICE, log entry 25) -/

/-- The numbers of `width` bytes at an offset, `count` of them. -/
def fieldsAt (bytes : List Byte) (offset width count : Nat) : List Nat :=
  (List.range count).map fun i => fieldAt bytes (offset + width * i) width

/-- The eight class figures at an offset. -/
def classesAt (bytes : List Byte) (offset : Nat) : Vector Nat 8 := tabulate 8 fun i => fieldAt bytes (offset + 4 * i) 4

/-- The stamp at an offset, present when its presence bit is set. -/
def stampAt (bytes : List Byte) (offset presence bit : Nat) : Option Time :=
  if presence / bit % 2 = 1 then some (BitVec.ofNat 32 (fieldAt bytes offset 4)) else none

/-- A check state by its code (R31). -/
def checkStateOf : Nat → Option CheckState
  | 0 => some .opened
  | 1 => some .presented
  | 2 => some .settling
  | 3 => some .settled
  | _ => none

/-- A plan kind by its code, FIXED included (R55). -/
def savedPlanKind : Nat → Option PlanKind
  | 4 => some .fixed
  | code => planKindOf code

/-- A saved line; under BY_ITEM it has a share set, and otherwise none (R48, R57). A status byte other than 0 is VOIDED (DESIGN
CHOICE, log entry 50). A set that is empty or names an index above n is taken as saved, and an empty set gives every share 0
(DESIGN CHOICE, log entry 52). A class above 7 is taken as saved and belongs to no class base (DESIGN CHOICE, log entry 61). -/
def savedLine (byItem : Bool) (r : List Byte) : Option Line := do
  let kind ← lineKindOf (fieldAt r 1 1)
  let price := signedValue 4 (fieldAt r 8 4)
  some
    { number := fieldAt r 0 1, kind := kind, code := BitVec.ofNat 32 (fieldAt r 4 4), cls := fieldAt r 2 1, price := price,
      quantity := fieldAt r 12 1, amount := lineAmount price (fieldAt r 12 1), live := decide (fieldAt r 3 1 = 0),
      shareSet := if byItem then some (BitVec.ofNat 16 (fieldAt r 13 2)) else none }

/-- A saved share (R185). Its class portions are present when the byte that says so is 1 (DESIGN CHOICE, log entry 50), and are
kept as saved, also on a check under FIXED (DESIGN CHOICE, log entry 63); its index byte is not read, since the records come in
the order of the list (DESIGN CHOICE, log entry 51). -/
def savedShare (r : List Byte) : Share where
  due := fieldAt r 1 4
  preTax := fieldAt r 5 4
  portions := if fieldAt r 21 1 = 1 then some (classesAt r 22) else none
  applied := fieldAt r 9 4
  tips := fieldAt r 13 4
  rounding := signedValue 2 (fieldAt r 17 2)
  revision := BitVec.ofNat 16 (fieldAt r 19 2)

/-- A saved late mark (R185). -/
def savedMark (r : List Byte) : Option LateMark :=
  match fieldAt r 31 1 with
  | 0 => some .none
  | 1 => some (.confirmed (bytesAt r 24 6))
  | 2 => some (.declined (fieldAt r 30 1))
  | _ => none

/-- A saved tender's state (R108, R185). -/
def savedState (r : List Byte) : Option TenderState :=
  match fieldAt r 3 1 with
  | 0 => some .authorizing
  | 1 => (savedMark r).map fun mark => .deferring (fieldAt r 32 2) mark
  | 2 => some (.approved (bytesAt r 24 6))
  | 3 => some (.deferred (fieldAt r 32 2))
  | 4 => some (.declined (fieldAt r 30 1))
  | 5 => some .failed
  | 6 => some .cashAccepted
  | 7 => some .reversed
  | 8 => some .unknown
  | 9 => some .lateDeclined
  | _ => none

/-- A saved tender's kind with its own fields (R107, R185). -/
def savedPayment (r : List Byte) : Option Payment :=
  match fieldAt r 2 1 with
  | 0 => some (.card (fieldAt r 10 4) (fieldAt r 34 2))
  | 1 => some (.cash (fieldAt r 14 4) (fieldAt r 18 4) (signedValue 2 (fieldAt r 22 2)))
  | _ => none

/-- A saved tender; the tag of its request is not saved, and no outcome is owed for it any more (R187; DESIGN CHOICE, log entry
26). -/
def savedTender (r : List Byte) : Option Tender := do
  let payment ← savedPayment r
  let state ← savedState r
  some
    { id := fieldAt r 0 1, share := fieldAt r 1 1, terminal := fieldAt r 4 2, payment := payment,
      amount := fieldAt r 6 4, state := state, requestTag := 0 }

/-- The values of a list of optional values, when every one is present. -/
def allPresent {α : Type} : List (Option α) → Option (List α)
  | [] => some []
  | none :: _ => none
  | some a :: rest => (allPresent rest).map fun as => a :: as

/-- The stamp moved to the new session's count: its distance to the saved clock is kept (R188). -/
def rebase (clock : Time) (t : Time) : Time := t - clock

/-- The check that a saved check reads back as, its stamps rebased (R185, R188). The alert-sent byte is set when it is 1 (DESIGN
CHOICE, log entry 50). The saved flight count, at offset 71, is not read: the flight count follows from the tenders' states
(DESIGN CHOICE, log entry 56). A value that R186 gives no check of is taken as saved (DESIGN CHOICE, log entry 61). -/
def SavedCheck.read (s : SavedCheck) (clock : Time) : Option Check := do
  let r := s.record
  let state ← checkStateOf (fieldAt r 5 1)
  let kind ← savedPlanKind (fieldAt r 7 1)
  let lines ← allPresent (s.lines.map (savedLine (decide (kind = .byItem))))
  let tenders ← allPresent (s.tenders.map savedTender)
  let count := fieldAt r 8 1
  let presence := fieldAt r 164 1
  some
    { number := fieldAt r 0 2, table := fieldAt r 2 2, covers := fieldAt r 4 1, state := state, lines := lines,
      totals := { bases := classesAt r 72, itemNet := fieldAt r 104 4, taxes := classesAt r 108, service := fieldAt r 140 4,
                  total := fieldAt r 144 4 },
      plan := { kind := kind, count := count, given := if kind = .amount then fieldsAt r 9 4 (count - 1) else [] },
      shares := tabulate 16 fun i => (s.shares[i]?.map savedShare).getD (.blank 0),
      tenders := tenders,
      openedAt := rebase clock (BitVec.ofNat 32 (fieldAt r 148 4)),
      presentedAt := (stampAt r 152 presence 1).map (rebase clock),
      anchoredAt := (stampAt r 156 presence 2).map (rebase clock),
      settledAt := (stampAt r 160 presence 4).map (rebase clock),
      dwell := fieldAt r 165 2, alerted := decide (fieldAt r 167 1 = 1) }

/-! ### Validation (R186) -/

/-- The items of a list are numbered 1, 2, ... in order. -/
def numbered (numbers : List Nat) : Bool := decide (numbers = List.range' 1 numbers.length)

/-- A tender names a share that its state allows (R186, check 2). -/
def Check.tenderPlaced (c : Check) (t : Tender) : Bool :=
  within 1 Config.shareRecords t.share &&
    (!(t.state.accepted || t.state.inFlight || decide (t.state = .unknown)) || decide (t.share ≤ c.plan.count))

/-- R186, checks 1 and 2. -/
def Part.savedShape (p : Part) (c : Check) : Bool :=
  within 1 65535 c.number && (p.findCheck c.number).isNone && within 1 999 c.table && within 1 40 c.covers
    && decide (c.lines.length ≤ Config.linesPerCheck) && numbered (c.lines.map fun l => l.number)
    && within 1 Config.shareRecords c.plan.count && decide (c.tenders.length ≤ Config.tendersPerCheck)
    && numbered (c.tenders.map fun t => t.id) && c.tenders.all c.tenderPlaced

/-- R186, check 3. -/
def Part.savedRoom (p : Part) (c : Check) : Bool :=
  (firstFree p.checks).isSome && decide (p.linesInUse + c.lines.length ≤ Config.linePool)
    && decide (p.tendersInUse + c.tenders.length ≤ Config.tenderPool)

/-- R186, check 4. -/
def Part.savedTotals (p : Part) (c : Check) : Bool :=
  !negativeBase c.lines && decide (workTotals p.venue c.covers c.lines = c.totals)

/-- The figures of the shares of the list. -/
def Check.figures (c : Check) : List Figures :=
  c.shareIndices.map fun k =>
    { due := (c.share k).due, preTax := (c.share k).preTax, portions := (c.share k).portions }

/-- The saved figures are those of the recomputation (R186, check 5). -/
def Part.savedFigures (p : Part) (c : Check) : Bool :=
  match c.plan.kind with
  | .fixed =>
    decide ((c.shareIndices.map fun k => (c.share k).due).sum = c.totals.total)
      && c.shareIndices.all fun k => decide ((c.share k).preTax ≤ (c.share k).due)
  | .none | .even | .byItem | .amount =>
    match recompute p.venue c.plan c.totals c.lines with
    | .ok figures => decide (figures = c.figures)
    | .error _ => false

/-- The accepted tenders of a share. -/
def Check.acceptedOn (c : Check) (k : Nat) : List Tender :=
  c.tenders.filter fun t => t.share == k && t.state.accepted

/-- R186, check 6, for one share. -/
def Check.moneyAgrees (c : Check) (k : Nat) : Bool :=
  let s := c.share k
  let accepted := c.acceptedOn k
  decide (s.applied = (accepted.map fun t => t.amount).sum) && decide (s.tips = (accepted.map fun t => t.payment.tip).sum)
    && decide (s.rounding = (accepted.map fun t => t.payment.rounding).sum)
    && decide ((accepted.countP fun t => decide (t.payment.rounding ≠ 0)) ≤ 1)
    && decide (0 ≤ s.remaining)
    && (c.tenders.filter fun t => t.share == k && t.state.inFlight).all fun t => decide ((t.amount : Int) ≤ s.remaining)

/-- R186, check 7; `anchored` is the saved flag. -/
def Check.stateAgrees (c : Check) (anchored : Bool) : Bool :=
  (anchored == c.state.anchored) &&
    match c.state with
    | .opened | .presented => !c.tenders.any fun t => t.state.accepted
    | .settling => decide (c.plan.kind = .fixed)
    | .settled => decide (c.plan.kind = .fixed) && c.allPaid && decide (c.flight = 0)

/-- The check passes every check of R186. -/
def Part.savedValid (p : Part) (c : Check) (anchored : Bool) : Bool :=
  p.savedShape c && p.savedRoom c && p.savedTotals c && p.savedFigures c && c.shareIndices.all c.moneyAgrees
    && c.stateAgrees anchored

/-- The check that a saved check is placed as, when it can be read and is valid (R186). The anchored byte is set when it is 1
(DESIGN CHOICE, log entry 50). -/
def Part.accepts (p : Part) (s : SavedCheck) (clock : Time) : Option Check :=
  (s.read clock).filter fun c => p.savedValid c (decide (fieldAt s.record 6 1 = 1))

/-! ### Conversion (R187) -/

/-- A journal slot matches a saved tender: it is mirrored as PENDING with the check number and the tender id, and no tender
converted earlier names it (R187). -/
def Part.slotMatches (p : Part) (named : List Nat) (slot number id : Nat) : Bool :=
  match p.journal.slotAt slot with
  | some s =>
    decide (s.state = .pending) && decide (s.contents.check = number) && decide (s.contents.tender = id)
      && !named.contains slot
  | none => false

/-- The exception UNKNOWN_OUTCOME of a tender; `slot` is the journal slot it named (R187). -/
def Part.unknownOutcome (p : Part) (c : Check) (t : Tender) (slot : Option Nat) : ExceptionEntry :=
  { ExceptionEntry.plain exceptionUnknownOutcome 0 with
    check := c.number, table := c.table, terminal := t.terminal, tender := t.id, amount := t.authAmount,
    sequence := (slot.bind p.journal.slotAt).map fun s => s.sequence }

/-- The count of UNKNOWN tenders that START_COMPLETE reports increases by one (R184). -/
def Part.countUnknown (p : Part) : Part := p.setControl { p.control with unknowns := p.control.unknowns + 1 }

/-- A tender becomes UNKNOWN, with its exception (R187). The exception comes before the settlement evaluation that follows, so its
notice before a CHECK_SETTLED (DESIGN CHOICE, log entry 60). -/
def Part.makeUnknown (p : Part) (slot : Nat) (c : Check) (t : Tender) (named : Option Nat) : Part :=
  ((p.setTenderState slot t.id .unknown).countUnknown).raise (p.unknownOutcome c t named)

/-- A tender's money leaves its share (R64, R187). -/
def Part.takeOut (p : Part) (slot : Nat) (t : Tender) : Part :=
  match p.checkAt slot with
  | some c => p.setCheck slot (some (c.setShare t.share ((c.share t.share).leave t)))
  | none => p

/-- A saved tender takes its state after the restore and is entered into its share (R117, R187). -/
def Part.acceptSaved (p : Part) (slot id : Nat) (state : TenderState) : Part :=
  (p.setTenderState slot id state).accept slot id none

/-- A matching slot is voided (R157, R187). -/
def Part.voidMatching (p : Part) (isMatch : Bool) (journalSlot : Nat) : Part :=
  if isMatch then p.voidPending journalSlot else p

/-- One tender of a placed check is converted: the part, and the slot that the converted tender names (R187). -/
def Part.convertTender (p : Part) (slot : Nat) (c : Check) (named : List Nat) (t : Tender) : Part × List Nat :=
  match t.state with
  | .authorizing => ((p.makeUnknown slot c t none).evaluate slot, named)
  | .deferring j mark =>
    let isMatch := p.slotMatches named j c.number t.id
    match mark with
    | .none =>
      if isMatch then ((p.acceptSaved slot t.id (.deferred j)).evaluate slot, j :: named)
      else ((p.makeUnknown slot c t (some j)).evaluate slot, named)
    | .confirmed code =>
      (((p.acceptSaved slot t.id (.approved code)).voidMatching isMatch j).evaluate slot, named)
    | .declined reason =>
      (((p.setTenderState slot t.id (.declined reason)).voidMatching isMatch j).evaluate slot, named)
  | .deferred j =>
    if p.slotMatches named j c.number t.id then (p, j :: named)
    else ((((p.takeOut slot t).makeUnknown slot c t (some j))).evaluate slot, named)
  | .approved _ | .declined _ | .failed | .cashAccepted | .reversed | .unknown | .lateDeclined => (p, named)

/-- The tenders of a placed check are converted, in tender-id order (R187). Each conversion that changes a share raises its revision
by one, so two of one share raise it by two at one READ_IMAGE end (R54; DESIGN CHOICE, log entry 65). -/
def Part.convertTenders (p : Part) (slot : Nat) (c : Check) (named : List Nat) : List Tender → Part × List Nat
  | [] => (p, named)
  | t :: rest =>
    let (q, named) := p.convertTender slot c named t
    q.convertTenders slot c named rest

/-! ### The restore (R184, R186 to R188) -/

/-- RESTORE_PARTIAL is set (R184, R186). -/
def Part.setPartial (p : Part) : Part := p.setControl { p.control with restorePartial := true }

/-- A saved check is not placed (R186). -/
def Part.rejectCheck (p : Part) (s : SavedCheck) : Part :=
  let q := p.setPartial
  (q.setControl { q.control with rejected := q.control.rejected + 1 }).raise
    { ExceptionEntry.plain exceptionRestoreRejected 0 with
      check := fieldAt s.record 0 2, table := fieldAt s.record 2 2, amount := fieldAt s.record 144 4 }

/-- A saved check is placed in the lowest free slot and its tenders are converted (R27, R186, R187). -/
def Part.placeCheck (p : Part) (c : Check) (named : List Nat) : Part × List Nat :=
  let slot := (firstFree p.checks).getD Config.checkSlots
  let q := p.setCheck slot (some c)
  (q.setControl { q.control with restored := q.control.restored + 1 }).convertTenders slot c named c.tenders

/-- The saved checks are restored in image order (R184, R186, R187). -/
def Part.restoreChecks (p : Part) (clock : Time) (named : List Nat) : List SavedCheck → Part
  | [] => p
  | s :: rest =>
    match p.accepts s clock with
    | some c =>
      let (q, named) := p.placeCheck c named
      q.restoreChecks clock named rest
    | none => (p.rejectCheck s).restoreChecks clock named rest

/-- The saved BARRED terminals are set BARRED; a number outside 1..96 is passed over (R185, R188). -/
def Part.restoreTerminals (p : Part) : List Nat → Part
  | [] => p
  | n :: rest => (if within 1 Config.terminals n then p.setRosterState n .barred else p).restoreTerminals rest

/-- The exception UNWATCHED_LATE of a saved entry; none for a record of another kind (R185, R188). -/
def unwatchedLate (r : List Byte) : Option ExceptionEntry :=
  let report : ExceptionEntry :=
    { ExceptionEntry.plain exceptionUnwatchedLate 0 with
      check := fieldAt r 1 2, table := fieldAt r 3 2, terminal := fieldAt r 5 2, tender := fieldAt r 7 1,
      amount := fieldAt r 8 4 }
  match fieldAt r 0 1 with
  | 0 => some { report with detail := fieldAt r 12 1 }
  | 1 => some { report with detail := 256 + fieldAt r 19 1, code := some (bytesAt r 13 6) }
  | _ => none

/-- The saved entries raise their exceptions, in saved order (R188). -/
def Part.restoreEntries (p : Part) : List (List Byte) → Part
  | [] => p
  | r :: rest =>
    match unwatchedLate r with
    | some e => (p.raise e).restoreEntries rest
    | none => p.restoreEntries rest

/-- The whole restore of a sound image (R184). -/
def Part.restore (p : Part) (image : SavedImage) : Part :=
  ((p.restoreChecks image.clock [] image.checks).restoreTerminals image.terminals).restoreEntries image.entries

/-- The preservation-image status is kept (R184). -/
def Part.setImageStatus (p : Part) (status : ImageStatus) : Part := p.setControl { p.control with imageStatus := status }

/-- READ_IMAGE completes (R184). CONSUME_IMAGE is requested last, after the MARK_VOID and ERASE that the restore's voids request
(R187; DESIGN CHOICE, log entry 59). -/
def Part.imageRead (p : Part) : Part :=
  match p.memory.readImage with
  | .absent => (p.setImageStatus .absent).enterReady
  | .rejected =>
    ((p.setImageStatus .rejected).setPartial.raise (.plain exceptionRestoreRejected 0)).request .consumeImage
  | .sound image => ((p.setImageStatus .sound).restore image).request .consumeImage

/-- READ_IMAGE ends with a fault (R184). -/
def Part.imageFaulted (p : Part) : Part := ((p.setImageStatus .faulted).setPartial).request .consumeImage

end Sys2Proof.Machine
end

