-- ==== Sys2Proof/Machine/Scan.lean ====
section
/-! DEFINITION. Machine/Scan.lean: the start-up scan (09): a slot of the memory read and classified (R152, R162), the run
(R162), the mirror, requests and exceptions of the rebuild (R162), and the journal-wide values (R163). -/

namespace Sys2Proof.Machine

/-! ### A slot as read (R152) -/

/-- What a slot of the memory holds (R152). -/
inductive SlotReading
  | empty
  | damaged
  | valid (pending : Bool) (sequence : BitVec 32) (contents : SlotContents)
  deriving DecidableEq, Repr

/-- The contents that the 128 bytes of a slot spell (R152). Under a token length above 64 the token is the 64 token bytes
(DESIGN CHOICE, log entry 48). -/
def contentsOf (bytes : List Byte) : SlotContents where
  check := fieldAt bytes 5 2
  table := fieldAt bytes 7 2
  terminal := fieldAt bytes 9 2
  tender := fieldAt bytes 11 1
  amount := fieldAt bytes 12 4
  tip := fieldAt bytes 16 4
  stamp := BitVec.ofNat 32 (fieldAt bytes 20 4)
  token := (bytesAt bytes 25 64).take (fieldAt bytes 24 1)

/-- The 128 bytes of a slot are classified (R152). -/
def classify (bytes : List Byte) : SlotReading :=
  let state := bytes.getD 0 0
  if bytes.all fun b => b == 0xFF#8 then .empty
  else if (state = stateBytePending ∨ state = stateByteVoid) ∧ fieldAt bytes 126 2 = (crc16 (bytesAt bytes 1 125)).toNat then
    .valid (decide (state = stateBytePending)) (BitVec.ofNat 32 (fieldAt bytes 1 4)) (contentsOf bytes)
  else .damaged

/-- The 512 slots of the memory as read, in slot order (R150, R162). -/
def Memory.slotReadings (m : Memory) : List SlotReading :=
  (List.range Config.journalSlots).map fun k => classify (m.readAll (slotAddress k) Config.slotBytes)

/-! ### The run (R162, step 2) -/

/-- The valid slots with their sequences, in slot order; the first reading is slot `i`'s. -/
def validFrom : Nat → List SlotReading → List (Nat × BitVec 32)
  | _, [] => []
  | i, .valid _ sequence _ :: rest => (i, sequence) :: validFrom (i + 1) rest
  | i, .empty :: rest => validFrom (i + 1) rest
  | i, .damaged :: rest => validFrom (i + 1) rest

/-- The sequence that every valid sequence follows by less than 2^31, if there is one: then sequences are compared
wrap-safely (R153, R162; DEDUCED, log entry 27). -/
def wrapBase (valid : List (Nat × BitVec 32)) : Option (BitVec 32) :=
  (valid.find? fun a => valid.all fun b => decide ((b.2 - a.2).toNat < 2 ^ 31)).map fun a => a.2

/-- The place of a sequence in the comparison that R162 gives: its distance from the wrap-safe lowest, or its unsigned
value. -/
def rankOf (base : Option (BitVec 32)) (sequence : BitVec 32) : Nat :=
  match base with
  | some b => (sequence - b).toNat
  | none => sequence.toNat

/-- How far a slot lies forward from another, wrapping from 511 to 0. -/
def forward (start slot : Nat) : Nat := (slot + Config.journalSlots - start) % Config.journalSlots

/-- Of two valid slots, the one with the lower sequence; the first on a tie, which has the lower slot number (R162). -/
def lowerOf (base : Option (BitVec 32)) (a b : Nat × BitVec 32) : Nat × BitVec 32 :=
  if rankOf base b.2 < rankOf base a.2 then b else a

/-- Of two valid slots, the one with the higher sequence; on a tie the one met first going forward from the head
(R162). -/
def higherOf (base : Option (BitVec 32)) (head : Nat) (a b : Nat × BitVec 32) : Nat × BitVec 32 :=
  if rankOf base a.2 < rankOf base b.2 ∨ (rankOf base a.2 = rankOf base b.2 ∧ forward head b.1 < forward head a.1) then b
  else a

/-- The run: its head, its length and the head's sequence (R162). -/
structure Run where
  head : Nat
  length : Nat
  first : BitVec 32
  deriving DecidableEq, Repr

/-- The run that the valid slots give; the empty run at slot 0, whose next sequence is 1, without one (R162, steps 1 and
2). -/
def runOf (valid : List (Nat × BitVec 32)) : Run :=
  match valid with
  | [] => { head := 0, length := 0, first := 1 }
  | v :: rest =>
    let base := wrapBase valid
    let head := rest.foldl (lowerOf base) v
    let last := rest.foldl (higherOf base head.1) v
    { head := head.1, length := forward head.1 last.1 + 1, first := head.2 }

/-- The expected sequence at a distance from the head (R162). -/
def Run.expected (r : Run) (distance : Nat) : BitVec 32 := r.first + BitVec.ofNat 32 distance

/-- The slot at a distance from the head. -/
def Run.slot (r : Run) (distance : Nat) : Nat := (r.head + distance) % Config.journalSlots

/-- A slot lies in the run. -/
def Run.has (r : Run) (slot : Nat) : Bool := decide (forward r.head slot < r.length)

/-! ### The mirror, the requests and the exceptions (R162, steps 3 and 4) -/

/-- The contents of the mirror entry of a damaged or an EMPTY slot of the run: the manual gives such an entry its state and its
sequence alone (R162), and zeros with no token stand for the rest (DESIGN CHOICE, log entry 49). -/
def SlotContents.blank : SlotContents where
  check := 0
  table := 0
  terminal := 0
  tender := 0
  amount := 0
  tip := 0
  stamp := 0
  token := []

/-- The mirror entry of a slot in the run, by what it holds and its expected sequence (R162, step 3; the contents of a damaged or
an EMPTY slot's entry are log entry 49's, DESIGN CHOICE). -/
def mirrorOf (expected : BitVec 32) : SlotReading → Slot
  | .valid pending sequence contents =>
    if sequence = expected then
      { state := if pending then .pending else .void, sequence := expected, contents := contents }
    else { state := .void, sequence := expected, contents := { contents with token := [] } }
  | .damaged => { state := .void, sequence := expected, contents := .blank }
  | .empty => { state := .void, sequence := expected, contents := .blank }

/-- A slot of the run is out of order: MARK_VOID is requested and JOURNAL_DAMAGED is added (R162, step 3). -/
def outOfOrder (expected : BitVec 32) : SlotReading → Bool
  | .valid _ sequence _ => decide (sequence ≠ expected)
  | .damaged => true
  | .empty => false

/-- The exception JOURNAL_DAMAGED of a slot: a valid slot's fields as read, and for a damaged one the sequence given
(R162, R165). Its Amount is the slot's auth amount, its amount plus its tip (DESIGN CHOICE, log entry 64). -/
def journalDamaged (slot : Nat) (sequence : Option (BitVec 32)) : SlotReading → ExceptionEntry
  | .valid _ read c =>
    { ExceptionEntry.plain exceptionJournalDamaged slot with
      check := c.check, table := c.table, terminal := c.terminal, tender := c.tender, amount := c.authAmount,
      sequence := some read, slotStamp := c.stamp }
  | .damaged => { ExceptionEntry.plain exceptionJournalDamaged slot with sequence := sequence }
  | .empty => .plain exceptionJournalDamaged slot

/-- The reading of a slot. -/
def readingAt (readings : List SlotReading) (slot : Nat) : SlotReading := readings.getD slot .empty

/-- The distances of the run's slots that are out of order, in run order (R162, step 3). -/
def Run.faulty (r : Run) (readings : List SlotReading) : List Nat :=
  (List.range r.length).filter fun d => outOfOrder (r.expected d) (readingAt readings (r.slot d))

/-- The slots outside the run that are not EMPTY, in slot order (R162, step 4). -/
def Run.strays (r : Run) (readings : List SlotReading) : List Nat :=
  (List.range Config.journalSlots).filter fun k => !r.has k && decide (readingAt readings k ≠ .empty)

/-- Memory operations are requested in order. -/
def Part.requestAll (p : Part) : List MemoryOp → Part
  | [] => p
  | op :: rest => (p.request op).requestAll rest

/-- Exceptions are raised in order. -/
def Part.raiseAll (p : Part) : List ExceptionEntry → Part
  | [] => p
  | e :: rest => (p.raise e).raiseAll rest

/-- The deferred total of a mirror: the auth amounts of its PENDING entries (R160, R163). -/
def pendingTotal (mirror : Vector (Option Slot) 512) : Nat :=
  (((inUse mirror).filter fun x => decide (x.2.state = .pending)).map fun x => x.2.contents.authAmount).sum

/-- The journal that a scan rebuilds (R162, R163). -/
def Journal.rebuilt (readings : List SlotReading) : Journal :=
  let run := runOf (validFrom 0 readings)
  let mirror := tabulate 512 fun k =>
    if run.has k then some (mirrorOf (run.expected (forward run.head k)) (readingAt readings k)) else none
  { mirror := mirror, head := run.head, tail := run.slot run.length, nextSequence := run.expected run.length,
    occupied := run.length, deferredTotal := pendingTotal mirror, highWater := false, locked := false, eraseAgain := false }

/-- The requests of the rebuild, in order (R162). -/
def scanRequests (readings : List SlotReading) : List MemoryOp :=
  let run := runOf (validFrom 0 readings)
  (run.faulty readings).map (fun d => .markVoid (run.slot d)) ++ (run.strays readings).map fun k => .erase k false

/-- The exceptions of the rebuild, in order (R162). -/
def scanExceptions (readings : List SlotReading) : List ExceptionEntry :=
  let run := runOf (validFrom 0 readings)
  (run.faulty readings).map (fun d =>
      journalDamaged (run.slot d) (some (run.expected d)) (readingAt readings (run.slot d)))
    ++ (run.strays readings).map fun k => journalDamaged k none (readingAt readings k)

/-- SCAN completes: the mirror is rebuilt, and the head test and the high-water test are made (R162, R163). -/
def Part.scanned (p : Part) : Part :=
  let readings := p.memory.slotReadings
  ((((p.setJournal (.rebuilt readings)).requestAll (scanRequests readings)).raiseAll
    (scanExceptions readings)).headTest).highWaterTest

/-- SCAN ends with a fault, its MEMORY_FAULT already added: the journal is locked (R163). -/
def Part.scanFaulted (p : Part) : Part :=
  (p.setJournal { Journal.initial with occupied := Config.journalSlots, locked := true }).highWaterTest

end Sys2Proof.Machine
end

