-- ==== Sys2Proof/Machine/Port.lean ====
section
/-! DEFINITION. Machine/Port.lean: the Memory Port (09): the transfers of each operation (R150), their ends, the ends of the
operations (R155 to R158, R163, R180, R184, R189), the snapshot (R189), and the resets that cut a transfer off (R151,
R191). -/

namespace Sys2Proof.Machine

/-- The code of an operation (R149). -/
def MemoryOp.code : MemoryOp → Nat
  | .append _ => 1
  | .markVoid _ => 2
  | .erase _ _ => 3
  | .loadConfig => 4
  | .scan => 5
  | .readImage => 6
  | .saveImage => 7
  | .consumeImage => 8

/-! ### Transfers (R150) -/

/-- How many transfers of at most 256 bytes carry a number of bytes (R150; DESIGN CHOICE, log entry 15). -/
def chunks (n : Nat) : Nat := (n + Config.transferBytes - 1) / Config.transferBytes

/-- The bytes of the image that SAVE_IMAGE writes, once its snapshot is taken. -/
def Port.imageBytes (q : Port) : List Byte := q.snapshot.getD []

/-- The body length that READ_IMAGE reads: the header's, or the whole region when the header gives a greater one (R184, R185;
DESIGN CHOICE, log entry 15). -/
def Memory.imageBodyRead (m : Memory) : Nat := min (fieldAt m.imageHeader 14 4) Config.imageBodyMax

/-- How many transfers an operation has (R150, R180, R184, R189; DESIGN CHOICE, log entry 15). -/
def Part.transfersOf (p : Part) : MemoryOp → Nat
  | .append _ | .markVoid _ | .erase _ _ | .consumeImage => 1
  | .scan => Config.journalSlots
  | .loadConfig => 1 + chunks (recordBytes * p.memory.configCount)
  | .readImage =>
    if imageMarked p.memory.imageHeader then 1 + chunks p.memory.imageBodyRead else 1
  | .saveImage => 2 + chunks (p.port.imageBytes.length - Config.imageHeaderBytes)

/-- The address and the bytes that the present transfer of an operation writes; none for a read (R150, R152, R184,
R189). -/
def Part.writeOf (p : Part) (op : MemoryOp) : Option (Nat × List Byte) :=
  match op with
  | .append slot =>
    (p.journal.slotAt slot).map fun s => (slotAddress slot, pendingSlotBytes s.sequence s.contents)
  | .markVoid slot => some (slotAddress slot, [stateByteVoid])
  | .erase slot _ => some (slotAddress slot, List.replicate Config.slotBytes 0xFF)
  | .consumeImage => some (Config.imageBase, List.replicate 4 0)
  | .saveImage =>
    let k := p.port.transfersDone
    let image := p.port.imageBytes
    if k = 0 then some (Config.imageBase, List.replicate 4 0)
    else if k + 1 < p.transfersOf .saveImage then
      let at_ := Config.imageHeaderBytes + Config.transferBytes * (k - 1)
      some (Config.imageBase + at_, bytesAt image at_ Config.transferBytes)
    else some (Config.imageBase, image.take Config.imageHeaderBytes)
  | .loadConfig | .scan | .readImage => none

/-- The transfer writes its bytes (R150). -/
def Part.writeTransfer (p : Part) (op : MemoryOp) : Part :=
  match p.writeOf op with
  | some (address, bytes) => { p with memory := p.memory.writeAll address bytes }
  | none => p

/-- A write that is cut off or fails leaves open bytes where it wrote (R150, R151; DESIGN CHOICE, log entry 3), but the marker that
SAVE_IMAGE has invalidated stays so (R189; DEDUCED, log entry 16). -/
def Part.tearTransfer (p : Part) (op : MemoryOp) : Part :=
  match p.writeOf op with
  | some (address, bytes) =>
    let (open_, q) := p.openRun bytes.length
    let torn := q.memory.writeAll address open_
    { q with memory := if op = .saveImage then torn.writeAll Config.imageBase (List.replicate 4 0) else torn }
  | none => p

/-! ### Faults (R150, R156 to R158, R165) -/

/-- The exception MEMORY_FAULT of an operation; an APPEND's carries the slot's fields, a MARK_VOID's and an ERASE's the
sequence (R156, R165). -/
def Part.memoryFault (p : Part) (op : MemoryOp) : ExceptionEntry :=
  let plain := ExceptionEntry.plain exceptionMemoryFault op.code
  match op with
  | .append slot =>
    match p.journal.slotAt slot with
    | some s =>
      { plain with
        check := s.contents.check, table := s.contents.table, terminal := s.contents.terminal,
        tender := s.contents.tender, amount := s.contents.authAmount, sequence := some s.sequence,
        slotStamp := s.contents.stamp }
    | none => plain
  | .markVoid slot | .erase slot true => { plain with sequence := (p.journal.slotAt slot).map fun s => s.sequence }
  | .erase _ false | .loadConfig | .scan | .readImage | .saveImage | .consumeImage => plain

/-- The DEFERRING tender that names a journal slot, with its check slot and its late mark (R155). -/
def Part.deferringOn (p : Part) (slot : Nat) : Option (Nat × Nat × LateMark) :=
  match p.findTender fun t => decide (t.state.inFlight = true ∧ t.state.slot = some slot) with
  | some (i, _, t) =>
    match t.state with
    | .deferring _ mark => some (i, t.id, mark)
    | .authorizing | .approved _ | .deferred _ | .declined _ | .failed | .cashAccepted | .reversed | .unknown
    | .lateDeclined => none
  | none => none

/-- The state that a late mark gives a tender, or the state it takes without one (R115). -/
def LateMark.outcome (mark : LateMark) (unmarked : TenderState) : TenderState :=
  match mark with
  | .none => unmarked
  | .confirmed code => .approved code
  | .declined reason => .declined reason

/-- The slot is PENDING: its APPEND has completed with no late mark (R155). -/
def Part.makePending (p : Part) (slot : Nat) : Part :=
  match p.journal.slotAt slot with
  | some s => p.setJournal (p.journal.setSlot slot (some { s with state := .pending }))
  | none => p

/-- APPEND completes (R115, R155). -/
def Part.appendDone (p : Part) (slot : Nat) : Part :=
  match p.deferringOn slot with
  | some (i, id, mark) =>
    let q := if mark = .none then p.makePending slot else (p.voidReserved slot).headTest
    q.leaveFlight i id (mark.outcome (.deferred slot))
  | none => p.makePending slot

/-- APPEND ends with a fault (R115, R156). The tender leaves flight after the five numbered actions of R156, so the notice of
MEMORY_FAULT comes before a CHECK_SETTLED (DEDUCED, log entry 62). -/
def Part.appendFaulted (p : Part) (slot : Nat) : Part :=
  let q := ((p.voidReserved slot).raise (p.memoryFault (.append slot))).headTest
  match p.deferringOn slot with
  | some (i, id, mark) => q.leaveFlight i id (mark.outcome .failed)
  | none => q

/-! ### The ends of the operations (R150) -/

/-- An operation has completed, and has left the queue. -/
def Part.completed (p : Part) (op : MemoryOp) : Part :=
  match op with
  | .append slot => p.appendDone slot
  | .markVoid _ => p
  | .erase _ true => (p.setJournal (p.journal.eraseHead p.venue.highWater)).headTest
  | .erase _ false => p
  | .loadConfig => p.configLoaded
  | .scan => p.scanned.enterRestoring
  | .readImage => p.imageRead
  | .saveImage => p
  | .consumeImage => p.enterReady

/-- An operation has ended with a fault, and has left the queue: MEMORY_FAULT is added, and its requester is told (R150,
R156 to R158, R163, R180, R184, R189). -/
def Part.faulted (p : Part) (op : MemoryOp) : Part :=
  match op with
  | .append slot => p.appendFaulted slot
  | .markVoid slot => p.raise (p.memoryFault (.markVoid slot))
  | .erase slot true =>
    (p.raise (p.memoryFault (.erase slot true))).setJournal { p.journal with eraseAgain := true }
  | .erase slot false => p.raise (p.memoryFault (.erase slot false))
  | .loadConfig => (p.raise (p.memoryFault .loadConfig)).configMissing
  | .scan => (p.raise (p.memoryFault .scan)).scanFaulted.enterRestoring
  | .readImage => (p.raise (p.memoryFault .readImage)).imageFaulted
  | .saveImage => p.raise (p.memoryFault .saveImage)
  | .consumeImage => (p.raise (p.memoryFault .consumeImage)).enterReady

/-- After a completion, an ERASE of the head that faulted earlier is asked for again (R158). -/
def Part.eraseRetry (p : Part) : Part :=
  if p.journal.eraseAgain then (p.setJournal { p.journal with eraseAgain := false }).headTest else p

/-- The operation in progress leaves the queue (R149). -/
def Part.finishOperation (p : Part) : Part := p.setPort (p.port.finish p.now)

/-- The operation in progress completes (R149, R150, R158). The ERASE that is asked for again is requested after every operation
that the completion itself requests (DESIGN CHOICE, log entry 55). -/
def Part.completeOperation (p : Part) (op : MemoryOp) : Part := (p.finishOperation.completed op).eraseRetry

/-- The operation in progress ends with a fault: the transfer's bytes are open, and no further transfer is made (R150). -/
def Part.faultOperation (p : Part) (op : MemoryOp) : Part := ((p.tearTransfer op).finishOperation).faulted op

/-- The operation whose transfer is in progress: the head of the queue while the part runs; SAVE_IMAGE makes no transfer
before its snapshot (R149, R189). -/
def Part.transferring (p : Part) : Option MemoryOp :=
  if p.control.startup.running then
    match p.port.queue with
    | op :: _ => if op = .saveImage ∧ p.port.snapshot.isNone then none else some op
    | [] => none
  else none

/-- The next transfer of the operation begins (R150). -/
def Part.nextTransfer (p : Part) : Part :=
  p.setPort { p.port with transfersDone := p.port.transfersDone + 1, transferStart := p.now }

/-- A transfer ends well: the next one begins, or the operation completes (R150). -/
def Part.transferDone (p : Part) (op : MemoryOp) : Part :=
  let q := p.writeTransfer op
  if p.port.transfersDone + 1 < p.transfersOf op then q.nextTransfer else q.completeOperation op

/-- The transfer in progress ends, with a memory error or well. Only a write or an erase can end with a memory error
(R150; DESIGN CHOICE, log entry 5). A transfer that ends 50 ms or more after it began ends as one that ends sooner, unless
OPERATION_LIMIT came first (DESIGN CHOICE, log entry 47). -/
def Part.transferEnd (p : Part) (error : Bool) : Part :=
  match p.transferring with
  | none => p
  | some op =>
    if error then (if (p.writeOf op).isSome then p.faultOperation op else p)
    else p.transferDone op

/-- The transfer in progress has not ended 50 ms after it began (R150; DESIGN CHOICE, log entry 5). -/
def Part.transferLimit (p : Part) : Part :=
  match p.transferring with
  | none => p
  | some op => if Config.operationLimit ≤ (p.now - p.port.transferStart).toNat then p.faultOperation op else p

/-- SAVE_IMAGE is the operation in progress: the snapshot is taken and its first transfer begins (R189; DESIGN CHOICE, log entry 5). -/
def Part.takeSnapshot (p : Part) : Part :=
  if p.control.startup.running ∧ p.port.queue.head? = some .saveImage ∧ p.port.snapshot.isNone then
    p.setPort { p.port with snapshot := some p.image, transferStart := p.now }
  else p

/-! ### Resets (R15, R151, R179, R190, R191) -/

/-- The transfer in progress is cut off (R151, R191). -/
def Part.cutOff (p : Part) : Part :=
  match p.transferring with
  | some op => p.tearTransfer op
  | none => p

/-- Every block takes its reset values; the memory, the input pins and the sampled straps keep theirs (R179). -/
def Part.reset (p : Part) : Part :=
  let q := p.cutOff
  (Part.initial q.memory (fun l => (q.link l).rdyIn) q.pfail q.openBytes).setControl
    { Control.initial with straps := p.control.straps }

/-- RESET_N is released: the part enters LOADING (R179; DESIGN CHOICE, log entry 5). -/
def Part.release (p : Part) (straps : BitVec 2) : Part :=
  if p.control.startup = .reset then p.enterLoading straps else p

/-- The internal reset of RESTART takes place once the save is over and the RESTART reply has left, and ends (R190; log
entry 5). -/
def Part.internalReset (p : Part) (straps : BitVec 2) : Part :=
  if p.control.startup = .saving ∧ p.control.restarting ∧ p.memoryIdle ∧ p.control.replyAhead = 0 then
    p.reset.enterLoading straps
  else p

end Sys2Proof.Machine
end

