-- ==== Sys2Proof/Machine/MemoryCommands.lean ====
section
/-! DEFINITION. Machine/MemoryCommands.lean: the meanings of the Memory Port's events (09, R189). -/

namespace Sys2Proof.Machine

/-- MEMORY_TRANSFER_END, with a memory error when `error` is set (R150). -/
def execMemoryTransferEnd (error : Bool) (s : State) : Host.Outcome State Fault Refusal :=
  act (fun p => p.transferEnd error) s

/-- OPERATION_LIMIT (R150). -/
def execOperationLimit (s : State) : Host.Outcome State Fault Refusal :=
  act Part.transferLimit s

/-- SAVE_IMAGE_SNAPSHOT (R189). -/
def execSaveImageSnapshot (s : State) : Host.Outcome State Fault Refusal :=
  act Part.takeSnapshot s

end Sys2Proof.Machine
end

