-- ==== Sys2Proof/Machine/OrderCommands.lean ====
section
/-! DEFINITION. Machine/OrderCommands.lean: the meanings of the requests taken from OL (01, 02, 03, 07, 09 to 11), and of PRESENT, which both
kinds of link carry.

A request taken from OL is handled by R4 in order; READ_CHECK, RESOLVE_TENDER and TERMINAL_CONTROL have a row for each
section, resolution or action, told apart by the value of that field in a body of the right length (DEDUCED, log entry 17). -/

namespace Sys2Proof.Machine

/-- PRESENT, from a terminal link or OL (R41); AL carries none. -/
def execPresent (l : Link) (s : State) : Host.Outcome State Fault Refusal :=
  match l with
  | .tl t => act (fun p => p.serveTerminal t (ofKind kindPresent) (fun f => f.hasLength 2) presentRequest) s
  | .ol => act (fun p => p.serveOrder (ofKind kindPresent) false (fun f => f.hasLength 2) presentRequest) s
  | .al => .next s

/-- OPEN_CHECK (R33). -/
def execOpenCheck (s : State) : Host.Outcome State Fault Refusal :=
  act (fun p => p.serveOrder (ofKind kindOpenCheck) false (fun f => f.hasLength 5) openCheckRequest) s

/-- ADD_LINE (R37). -/
def execAddLine (s : State) : Host.Outcome State Fault Refusal :=
  act (fun p => p.serveOrder (ofKind kindAddLine) false (fun f => f.hasLength 13) addLineRequest) s

/-- VOID_LINE (R38). -/
def execVoidLine (s : State) : Host.Outcome State Fault Refusal :=
  act (fun p => p.serveOrder (ofKind kindVoidLine) false (fun f => f.hasLength 3) voidLineRequest) s

/-- SET_COVERS (R39). -/
def execSetCovers (s : State) : Host.Outcome State Fault Refusal :=
  act (fun p => p.serveOrder (ofKind kindSetCovers) false (fun f => f.hasLength 3) setCoversRequest) s

/-- MOVE_CHECK (R40). -/
def execMoveCheck (s : State) : Host.Outcome State Fault Refusal :=
  act (fun p => p.serveOrder (ofKind kindMoveCheck) false (fun f => f.hasLength 4) moveCheckRequest) s

/-- CLOSE_CHECK (R44). -/
def execCloseCheck (s : State) : Host.Outcome State Fault Refusal :=
  act (fun p => p.serveOrder (ofKind kindCloseCheck) false (fun f => f.hasLength 2) closeCheckRequest) s

/-- DISCARD_CHECK (R45). -/
def execDiscardCheck (s : State) : Host.Outcome State Fault Refusal :=
  act (fun p => p.serveOrder (ofKind kindDiscardCheck) false (fun f => f.hasLength 2) discardCheckRequest) s

/-- READ_CHECK of section 0, and READ_CHECK that names no other section (R47). -/
def execReadCheckSummary (s : State) : Host.Outcome State Fault Refusal :=
  act (fun p => p.serveOrder (fun f => ofKind kindReadCheck f && !ofVariant kindReadCheck 4 2 1 1 f
      && !ofVariant kindReadCheck 4 2 1 2 f && !ofVariant kindReadCheck 4 2 1 3 f) false (fun f => f.hasLength 4) readSummaryRequest) s

/-- READ_CHECK of section 1 (R48). -/
def execReadCheckLines (s : State) : Host.Outcome State Fault Refusal :=
  act (fun p => p.serveOrder (ofVariant kindReadCheck 4 2 1 1) false (fun f => f.hasLength 4) readLinesRequest) s

/-- READ_CHECK of section 2 (R49). -/
def execReadCheckShares (s : State) : Host.Outcome State Fault Refusal :=
  act (fun p => p.serveOrder (ofVariant kindReadCheck 4 2 1 2) false (fun f => f.hasLength 4) readSharesRequest) s

/-- READ_CHECK of section 3 (R49). -/
def execReadCheckTenders (s : State) : Host.Outcome State Fault Refusal :=
  act (fun p => p.serveOrder (ofVariant kindReadCheck 4 2 1 3) false (fun f => f.hasLength 4) readTendersRequest) s

/-- RESOLVE_TENDER with resolution ACCEPT, and one that names no resolution (R124, R125). -/
def execResolveTenderAccept (s : State) : Host.Outcome State Fault Refusal :=
  act (fun p => p.serveOrder (fun f => ofKind kindResolveTender f && !ofVariant kindResolveTender 10 3 1 2 f) false (fun f => f.hasLength 10) resolveAcceptRequest) s

/-- RESOLVE_TENDER with resolution REVERSE (R124, R125). -/
def execResolveTenderReverse (s : State) : Host.Outcome State Fault Refusal :=
  act (fun p => p.serveOrder (ofVariant kindResolveTender 10 3 1 2) false (fun f => f.hasLength 10) resolveReverseRequest) s

/-- TERMINAL_CONTROL with action RESET, and one that names no action (R21, R22). -/
def execTerminalControlReset (s : State) : Host.Outcome State Fault Refusal :=
  act (fun p => p.serveOrder (fun f => ofKind kindTerminalControl f && !ofVariant kindTerminalControl 3 2 1 2 f
      && !ofVariant kindTerminalControl 3 2 1 3 f) false (fun f => f.hasLength 3) (terminalControlRequest Part.controlReset)) s

/-- TERMINAL_CONTROL with action BAR (R21, R22). -/
def execTerminalControlBar (s : State) : Host.Outcome State Fault Refusal :=
  act (fun p => p.serveOrder (ofVariant kindTerminalControl 3 2 1 2) false (fun f => f.hasLength 3) (terminalControlRequest Part.controlBar)) s

/-- TERMINAL_CONTROL with action UNBAR (R21, R22). -/
def execTerminalControlUnbar (s : State) : Host.Outcome State Fault Refusal :=
  act (fun p => p.serveOrder (ofVariant kindTerminalControl 3 2 1 3) false (fun f => f.hasLength 3) (terminalControlRequest Part.controlUnbar)) s

/-- READ_EXCEPTIONS (R166). -/
def execReadExceptions (s : State) : Host.Outcome State Fault Refusal :=
  act (fun p => p.serveOrder (ofKind kindReadExceptions) false (fun f => f.hasLength 2) readExceptionsRequest) s

/-- CLEAR_EXCEPTION (R167). -/
def execClearException (s : State) : Host.Outcome State Fault Refusal :=
  act (fun p => p.serveOrder (ofKind kindClearException) false (fun f => f.hasLength 2) clearExceptionRequest) s

/-- STATUS, excepted from NOT_READY (R4, R14). -/
def execStatus (s : State) : Host.Outcome State Fault Refusal :=
  act (fun p => p.serveOrder (ofKind kindStatus) true (fun f => f.hasLength 0) statusRequest) s

/-- CALIBRATE (R173). -/
def execCalibrate (s : State) : Host.Outcome State Fault Refusal :=
  act (fun p => p.serveOrder (ofKind kindCalibrate) false (fun f => f.hasLength 0) calibrateRequest) s

/-- RESTART (R190). -/
def execRestart (s : State) : Host.Outcome State Fault Refusal :=
  act (fun p => p.serveOrder (ofKind kindRestart) false (fun f => f.hasLength 0) restartRequest) s

/-- CONFIG_BEGIN, excepted from NOT_READY while a download is awaited (R4, R183). -/
def execConfigBegin (s : State) : Host.Outcome State Fault Refusal :=
  act (fun p => p.serveOrder (ofKind kindConfigBegin) p.control.download.isSome (fun f => f.hasLength 1) configBeginRequest) s

/-- CONFIG_RECORD, excepted from NOT_READY while a download is awaited (R4, R183). -/
def execConfigRecord (s : State) : Host.Outcome State Fault Refusal :=
  act (fun p => p.serveOrder (ofKind kindConfigRecord) p.control.download.isSome (fun f => f.hasLength recordBytes) configRecordRequest) s

/-- CONFIG_END, excepted from NOT_READY while a download is awaited (R4, R183). -/
def execConfigEnd (s : State) : Host.Outcome State Fault Refusal :=
  act (fun p => p.serveOrder (ofKind kindConfigEnd) p.control.download.isSome (fun f => f.hasLength 0) configEndRequest) s

end Sys2Proof.Machine
end

