-- ==== Sys2Proof/Machine/PowerCommands.lean ====
section
/-! DEFINITION. Machine/PowerCommands.lean: the meanings of the reset, start-up and power commands (11). -/

namespace Sys2Proof.Machine

/-- RESET_N_LOW (R191). -/
def execResetNLow (s : State) : Host.Outcome State Fault Refusal :=
  act Part.reset s

/-- RESET_N_RELEASE (R179). -/
def execResetNRelease (straps : BitVec 2) (s : State) : Host.Outcome State Fault Refusal :=
  act (fun p => p.release straps) s

/-- INTERNAL_RESET (R190). -/
def execInternalReset (straps : BitVec 2) (s : State) : Host.Outcome State Fault Refusal :=
  act (fun p => p.internalReset straps) s

/-- ENTER_HALTED (R189). -/
def execEnterHalted (s : State) : Host.Outcome State Fault Refusal :=
  act Part.enterHalted s

/-- PFAIL_ASSERTED (R179). -/
def execPfailAsserted (level : Bool) (s : State) : Host.Outcome State Fault Refusal :=
  act (fun p => p.pfailLevel level) s

end Sys2Proof.Machine
end

