-- ==== Sys2Proof/Machine/TerminalCommands.lean ====
section
/-! DEFINITION. Machine/TerminalCommands.lean: the meanings of the requests taken from a terminal link (02 to 07).

A request taken from a terminal link is handled by R4 in order; LOOKUP and TENDER_STATUS have two rows each, told apart by
a check number of 0 in a body of the right length (DEDUCED, log entry 17). -/

namespace Sys2Proof.Machine

/-- LOOKUP by check number (R50). -/
def execLookup (t : Tl) (s : State) : Host.Outcome State Fault Refusal :=
  act (fun p => p.serveTerminal t (fun f => ofKind kindLookup f && !ofVariant kindLookup 4 0 2 0 f) (fun f => f.hasLength 4) lookupRequest) s

/-- LOOKUP with check number 0 (R51). -/
def execLookupByTable (t : Tl) (s : State) : Host.Outcome State Fault Refusal :=
  act (fun p => p.serveTerminal t (ofVariant kindLookup 4 0 2 0) (fun f => f.hasLength 4) lookupByTableRequest) s

/-- CLAIM (R94 to R96). -/
def execClaim (t : Tl) (s : State) : Host.Outcome State Fault Refusal :=
  act (fun p => p.serveTerminal t (ofKind kindClaim) (fun f => f.hasLength 3) claimRequest) s

/-- RELEASE (R99). -/
def execRelease (t : Tl) (s : State) : Host.Outcome State Fault Refusal :=
  act (fun p => p.serveTerminal t (ofKind kindRelease) (fun f => f.hasLength 3) releaseRequest) s

/-- VIEW_SHARE (R61). -/
def execViewShare (t : Tl) (s : State) : Host.Outcome State Fault Refusal :=
  act (fun p => p.serveTerminal t (ofKind kindViewShare) (fun f => f.hasLength 3) viewShareRequest) s

/-- SET_PLAN (R58, R59). -/
def execSetPlan (t : Tl) (s : State) : Host.Outcome State Fault Refusal :=
  act (fun p => p.serveTerminal t (ofKind kindSetPlan) (Frame.setPlanLength) setPlanRequest) s

/-- ASSIGN_LINE (R60). -/
def execAssignLine (t : Tl) (s : State) : Host.Outcome State Fault Refusal :=
  act (fun p => p.serveTerminal t (ofKind kindAssignLine) (fun f => f.hasLength 5) assignLineRequest) s

/-- PAY_CARD (R110 to R112). -/
def execPayCard (t : Tl) (s : State) : Host.Outcome State Fault Refusal :=
  act (fun p => p.serveTerminal t (ofKind kindPayCard) (Frame.payCardLength) payCardRequest) s

/-- PAY_CASH (R119, R120). -/
def execPayCash (t : Tl) (s : State) : Host.Outcome State Fault Refusal :=
  act (fun p => p.serveTerminal t (ofKind kindPayCash) (fun f => f.hasLength 9) payCashRequest) s

/-- VOID_TENDER (R121, R122). -/
def execVoidTender (t : Tl) (s : State) : Host.Outcome State Fault Refusal :=
  act (fun p => p.serveTerminal t (ofKind kindVoidTender) (fun f => f.hasLength 3) voidTenderRequest) s

/-- TENDER_STATUS naming a check (R123). -/
def execTenderStatus (t : Tl) (s : State) : Host.Outcome State Fault Refusal :=
  act (fun p => p.serveTerminal t (fun f => ofKind kindTenderStatus f && !ofVariant kindTenderStatus 3 0 2 0 f) (fun f => f.hasLength 3) tenderStatusRequest) s

/-- TENDER_STATUS with check number 0 (R123). -/
def execTenderStatusFlight (t : Tl) (s : State) : Host.Outcome State Fault Refusal :=
  act (fun p => p.serveTerminal t (ofVariant kindTenderStatus 3 0 2 0) (fun f => f.hasLength 3) tenderStatusFlightRequest) s

end Sys2Proof.Machine
end

