-- ==== Sys2Proof/Machine/Dispatch.lean ====
section
/-! DEFINITION. Machine/Dispatch.lean: one arm per command, each a direct call of the command's meaning. -/

namespace Sys2Proof.Machine

def exec (i : Instr) (s : State) : Host.Outcome State Fault Refusal :=
  match i with
  | .resetNLow => Sys2Proof.Machine.execResetNLow s
  | .resetNRelease straps => Sys2Proof.Machine.execResetNRelease straps s
  | .internalReset straps => Sys2Proof.Machine.execInternalReset straps s
  | .enterHalted => Sys2Proof.Machine.execEnterHalted s
  | .pfailAsserted level => Sys2Proof.Machine.execPfailAsserted level s
  | .serviceClockTick => Sys2Proof.Machine.execServiceClockTick s
  | .wholeSecond => Sys2Proof.Machine.execWholeSecond s
  | .refppsEdge => Sys2Proof.Machine.execRefppsEdge s
  | .frameComplete l b => Sys2Proof.Machine.execFrameComplete l b s
  | .interByteTimeout l => Sys2Proof.Machine.execInterByteTimeout l s
  | .frameTransmitted l => Sys2Proof.Machine.execFrameTransmitted l s
  | .heldReplyMove t => Sys2Proof.Machine.execHeldReplyMove t s
  | .noticeMove => Sys2Proof.Machine.execNoticeMove s
  | .arbiterGrant => Sys2Proof.Machine.execArbiterGrant s
  | .unacceptedKindFrame l => Sys2Proof.Machine.execUnacceptedKindFrame l s
  | .lookup t => Sys2Proof.Machine.execLookup t s
  | .lookupByTable t => Sys2Proof.Machine.execLookupByTable t s
  | .claim t => Sys2Proof.Machine.execClaim t s
  | .release t => Sys2Proof.Machine.execRelease t s
  | .present l => Sys2Proof.Machine.execPresent l s
  | .viewShare t => Sys2Proof.Machine.execViewShare t s
  | .setPlan t => Sys2Proof.Machine.execSetPlan t s
  | .assignLine t => Sys2Proof.Machine.execAssignLine t s
  | .payCard t => Sys2Proof.Machine.execPayCard t s
  | .payCash t => Sys2Proof.Machine.execPayCash t s
  | .voidTender t => Sys2Proof.Machine.execVoidTender t s
  | .tenderStatus t => Sys2Proof.Machine.execTenderStatus t s
  | .tenderStatusFlight t => Sys2Proof.Machine.execTenderStatusFlight t s
  | .openCheck => Sys2Proof.Machine.execOpenCheck s
  | .addLine => Sys2Proof.Machine.execAddLine s
  | .voidLine => Sys2Proof.Machine.execVoidLine s
  | .setCovers => Sys2Proof.Machine.execSetCovers s
  | .moveCheck => Sys2Proof.Machine.execMoveCheck s
  | .closeCheck => Sys2Proof.Machine.execCloseCheck s
  | .discardCheck => Sys2Proof.Machine.execDiscardCheck s
  | .readCheckSummary => Sys2Proof.Machine.execReadCheckSummary s
  | .readCheckLines => Sys2Proof.Machine.execReadCheckLines s
  | .readCheckShares => Sys2Proof.Machine.execReadCheckShares s
  | .readCheckTenders => Sys2Proof.Machine.execReadCheckTenders s
  | .resolveTenderAccept => Sys2Proof.Machine.execResolveTenderAccept s
  | .resolveTenderReverse => Sys2Proof.Machine.execResolveTenderReverse s
  | .terminalControlReset => Sys2Proof.Machine.execTerminalControlReset s
  | .terminalControlBar => Sys2Proof.Machine.execTerminalControlBar s
  | .terminalControlUnbar => Sys2Proof.Machine.execTerminalControlUnbar s
  | .readExceptions => Sys2Proof.Machine.execReadExceptions s
  | .clearException => Sys2Proof.Machine.execClearException s
  | .status => Sys2Proof.Machine.execStatus s
  | .calibrate => Sys2Proof.Machine.execCalibrate s
  | .restart => Sys2Proof.Machine.execRestart s
  | .configBegin => Sys2Proof.Machine.execConfigBegin s
  | .configRecord => Sys2Proof.Machine.execConfigRecord s
  | .configEnd => Sys2Proof.Machine.execConfigEnd s
  | .authReply => Sys2Proof.Machine.execAuthReply s
  | .reversalReply => Sys2Proof.Machine.execReversalReply s
  | .submitReply => Sys2Proof.Machine.execSubmitReply s
  | .gatewayError => Sys2Proof.Machine.execGatewayError s
  | .linkAlive => Sys2Proof.Machine.execLinkAlive s
  | .claimLeaseExpiry => Sys2Proof.Machine.execClaimLeaseExpiry s
  | .liveTimeout => Sys2Proof.Machine.execLiveTimeout s
  | .watchExpiry => Sys2Proof.Machine.execWatchExpiry s
  | .drainTimeout => Sys2Proof.Machine.execDrainTimeout s
  | .reversalExpiry => Sys2Proof.Machine.execReversalExpiry s
  | .alAliveExpiry => Sys2Proof.Machine.execAlAliveExpiry s
  | .alSettleExpiry => Sys2Proof.Machine.execAlSettleExpiry s
  | .calGuardExpiry => Sys2Proof.Machine.execCalGuardExpiry s
  | .memoryTransferEnd error => Sys2Proof.Machine.execMemoryTransferEnd error s
  | .operationLimit => Sys2Proof.Machine.execOperationLimit s
  | .saveImageSnapshot => Sys2Proof.Machine.execSaveImageSnapshot s
  | .byteReceived l b => Sys2Proof.Machine.execByteReceived l b s
  | .stopBitError l => Sys2Proof.Machine.execStopBitError l s
  | .rdyInAsserted l level => Sys2Proof.Machine.execRdyInAsserted l level s

end Sys2Proof.Machine
end

