-- ==== Sys2Proof/Machine/Step.lean ====
section
/-! DEFINITION. Machine/Step.lean: one step of the block: the command at the front of the queue, or one system clock. -/

namespace Sys2Proof.Machine

/-- One step. The command at the front of the queue is taken and carried out on the state with the queue's rest. On an
empty queue one system clock passes, since the table has no row for a clock on CLK (DESIGN CHOICE, log entry 9). -/
def step (s : State) : Host.Outcome State Fault Refusal :=
  match s.pending with
  | c :: rest => exec c { s with pending := rest }
  | [] => act Part.systemClock s

end Sys2Proof.Machine

namespace Sys2Proof.Machine.State

/-- The state with the command that a word spells put at the front of its queue; a word that spells none changes nothing
(DEDUCED, log entry 2). -/
def withFetchWord (s : State) (nbits w : Nat) : State :=
  match decodeTableWord nbits w with
  | some c => { s with pending := c :: s.pending }
  | none => s

end Sys2Proof.Machine.State
end

