-- ==== Sys2Proof/Safety.lean ====
section
/-! DEFINITION. Safety.lean: the terms that statements about the model use: the bounds that hold in every state the part
can be in, the moves of the start-up state, claims that exclude one another, the form of the deadline list and of the journal, a
request or a gateway frame that stands ready to be taken, which command takes which frame, advisories and late replies, and the
runs of the memory's operations and of its journal slots. -/

namespace Sys2Proof.Machine

/-! ### Bounds (R5, R6, R10, R11, R13, R149, R164, R168, R169, R180) -/

/-- A link keeps its bounds: its queues their places, its counters their width, a partial frame its length. -/
def LinkState.bounded (x : LinkState) : Bool :=
  decide (x.inbound.length ≤ Config.inboundPlaces) && decide (x.outbound.length ≤ Config.outboundPlaces)
    && decide (x.crcErrors ≤ Config.counterMax) && decide (x.framingErrors ≤ Config.counterMax)
    && decide (x.overruns ≤ Config.counterMax) && decide (x.advisoriesLost ≤ Config.counterMax)
    && match x.receiver with
      | .hunt _ | .header _ _ => true
      | .body length got _ => within 6 297 length && decide (got.length < length)

/-- The memory operation queue keeps its places, and an operation waits in line only behind a full queue (R149). -/
def Port.bounded (q : Port) : Bool :=
  decide (q.queue.length ≤ Config.operationPlaces)
    && (q.waiting.isEmpty || decide (q.queue.length = Config.operationPlaces))

/-- The part keeps the bounds of its queues, lists and counters. -/
def Part.bounded (p : Part) : Bool :=
  p.links.tl0.bounded && p.links.tl1.bounded && p.links.tl2.bounded && p.links.tl3.bounded && p.links.ol.bounded
    && p.links.al.bounded && decide (p.kept = none) && decide (p.noticeList.length ≤ Config.noticePlaces)
    && decide (p.noticesLost ≤ Config.lostMax) && decide (p.reheard ≤ Config.counterMax)
    && decide (p.staleReplies ≤ Config.counterMax) && decide (p.exceptions.length ≤ Config.exceptionPlaces)
    && decide (p.exceptionsLost ≤ Config.lostMax) && p.port.bounded && decide (p.clockUnit.second ≤ 999)

/-! ### The moves of the start-up state (R179) -/

/-- The moves that the table of R179 names, and staying. LOADING is passed at once in mode DEFAULT, and READY when PFAIL
is asserted at its entry. -/
def Startup.mayMove : Startup → Startup → Bool
  | _, .reset => true
  | .reset, .loading | .reset, .scanning => true
  | .loading, .scanning => true
  | .scanning, .restoring => true
  | .restoring, .ready | .restoring, .saving => true
  | .ready, .saving => true
  | .saving, .halted | .saving, .loading | .saving, .scanning => true
  | a, b => a == b

/-- An operation of the Start-up and Preservation Controller (R149). -/
def MemoryOp.ofController : MemoryOp → Bool
  | .append _ | .markVoid _ | .erase _ _ => false
  | .loadConfig | .scan | .readImage | .saveImage | .consumeImage => true

/-- The controller's operations that are outstanding, in their order (R149). -/
def Port.controllerOps (q : Port) : List MemoryOp := (q.queue ++ q.waiting).filter MemoryOp.ofController

/-- The controller has outstanding what its state waits for and nothing else (R179, R180, R183, R184, R189). -/
def Part.phased (p : Part) : Bool :=
  match p.control.startup, p.port.controllerOps with
  | .loading, ops => (decide (ops = [.loadConfig]) && p.control.download.isNone) || (ops.isEmpty && p.control.download.isSome)
  | .scanning, ops => decide (ops = [.scan]) && p.control.download.isNone
  | .restoring, ops => (decide (ops = [.readImage]) || decide (ops = [.consumeImage])) && p.control.download.isNone
  | .saving, ops => (decide (ops = [.saveImage]) || ops.isEmpty) && p.control.download.isNone
  | .reset, ops | .ready, ops | .halted, ops => ops.isEmpty && p.control.download.isNone

/-! ### Claims that exclude one another (R93, R94) -/

/-- Two claims on one check, of different terminals, cover no share in common. -/
def Claim.apart (a b : Claim) : Bool :=
  a.check != b.check || a.terminal == b.terminal ||
    match a.scope, b.scope with
    | .share i, .share k => i != k
    | .whole, _ | _, .whole => false

/-- Two claims on one check cover no share in common, whoever holds them. -/
def Claim.disjoint (a b : Claim) : Bool :=
  a.check != b.check ||
    match a.scope, b.scope with
    | .share i, .share k => i != k
    | .whole, _ | _, .whole => false

/-- On every check, the claims in use are one WHOLE claim alone, or share claims on pairwise distinct shares (R94). -/
def Part.claimsApart (p : Part) : Bool :=
  (inUse p.claims).all fun x => (inUse p.claims).all fun y => x.1 == y.1 || x.2.disjoint y.2

/-! ### The deadline list (R170 to R172) -/

/-- An owner has a deadline to have in the list: an ACTIVE claim, an entry that is not FREE under its generation, an AL link that
is not DOWN, one that is SETTLING, a calibration that runs (R92, R131, R135, R170, R173). -/
def Part.owes (p : Part) : Owner → Bool
  | .claimLease i => (p.claimAt i).any fun c => decide (c.state = .active)
  | .auth e generation => decide ((p.entryCell e).generation = generation) && (p.entryCell e).use.isSome
  | .alAlive => decide (p.alState ≠ .down)
  | .alSettle => decide (p.alState = .settling)
  | .calGuard => decide (p.clockUnit.calibration ≠ .idle)

/-- The owners of R170, an entry under its present generation. -/
def Part.owners (p : Part) : List Owner :=
  (List.range 64).map .claimLease ++ (List.range 48).map p.entryOwner ++ [.alAlive, .alSettle, .calGuard]

/-- The timers of a configuration are at most 600 seconds (R181). -/
def Venue.timesFit (v : Venue) : Bool :=
  decide (v.claimLease ≤ 600) && decide (v.authTimeout ≤ 600) && decide (v.lateWindow ≤ 600)
    && decide (v.aliveTimeout ≤ 600) && decide (v.settleInterval ≤ 600)

/-- The free list holds each FREE entry once and nothing else (R127, R128). -/
def Part.freeListed (p : Part) : Bool :=
  decide p.freeList.Nodup && p.freeList.all (fun e => decide (e < 48))
    && (List.range 48).all fun e => p.freeList.contains e == (p.entryCell e).use.isNone

/-- The deadline list stands in the order of the due times, holds every owner's deadline once and no other, and none is due
later than the longest interval from now (R170, R171); before READY there is none, and no claim. In HALTED the guard of a
calibration that ended may be left in it (log entry 35, DEDUCED). -/
def Part.timed (p : Part) : Bool :=
  let list := p.clockUnit.deadlines
  decide (list.Pairwise fun a b => (a.due - p.now).toInt ≤ (b.due - p.now).toInt)
    && decide (list.map fun d => d.owner).Nodup
    && list.all (fun d => p.owes d.owner || (decide (d.owner = .calGuard) && decide (p.control.startup = .halted)))
    && p.owners.all (fun o => !p.owes o || list.any fun d => d.owner == o)
    && list.all (fun d => decide (-2 ^ 30 ≤ (d.due - p.now).toInt) && decide ((d.due - p.now).toInt ≤ 600000))
    && p.freeListed && p.venue.timesFit
    && match p.control.startup with
      | .reset | .loading | .scanning | .restoring => list.isEmpty && (inUse p.claims).isEmpty
      | .ready | .saving | .halted => true

/-- No expiry has waited for 2^30 ms, the time by which the order of the list can be told across the wrap of the clock
(R169). -/
def Part.prompt (p : Part) : Bool := p.clockUnit.deadlines.all fun d => decide (-2 ^ 30 < (d.due - p.now).toInt)

/-! ### The journal (R153 to R163) -/

/-- The entries in use are those from the head to the tail, as many as the occupied count, and their sequences rise by one up
to the next sequence (R153). -/
def Journal.runs (j : Journal) : Bool :=
  decide (j.head < 512) && decide (j.occupied ≤ 512) && decide (j.tail = (j.head + j.occupied) % 512)
    && (List.range 512).all fun d =>
      match j.slotAt ((j.head + d) % 512) with
      | some z => decide (d < j.occupied) && decide (z.sequence = j.nextSequence - BitVec.ofNat 32 (j.occupied - d))
      | none => decide (j.occupied ≤ d)

/-- The auth amounts of the RESERVED and PENDING entries (R160). -/
def Journal.owed (j : Journal) : Nat :=
  (((inUse j.mirror).filter fun x => decide (x.2.state ≠ .void)).map fun x => x.2.contents.amount + x.2.contents.tip).sum

/-- The slots whose APPEND is outstanding (R149). -/
def Port.appends (q : Port) : List Nat :=
  (q.queue ++ q.waiting).filterMap fun op =>
    match op with
    | .append k => some k
    | _ => none

/-- The slots whose ERASE as the head is outstanding (R149, R158). -/
def Port.headErases (q : Port) : List Nat :=
  (q.queue ++ q.waiting).filterMap fun op =>
    match op with
    | .erase k true => some k
    | _ => none

/-- The journal stands as R153 and R160 say: the run, or under the lock nothing but an occupied count of 512 (R163); the deferred
total; an APPEND outstanding at most once for a slot, which is RESERVED; an ERASE of the head outstanding at most once, for a head that is
VOID; and before the scan has ended nothing at all. -/
def Part.journaled (p : Part) : Bool :=
  let j := p.journal
  decide (j.deferredTotal = j.owed)
    && (if j.locked then (inUse j.mirror).isEmpty && decide (j.occupied = 512) else j.runs)
    && decide p.port.appends.Nodup
    && p.port.appends.all (fun k => (j.slotAt k).any fun z => decide (z.state = .reserved))
    && decide (p.port.headErases.length ≤ 1)
    && p.port.headErases.all (fun k => decide (k = j.head) && (j.slotAt k).any fun z => decide (z.state = .void))
    && match p.control.startup with
      | .reset | .loading | .scanning => decide (j = Journal.initial) && p.port.appends.isEmpty && p.port.headErases.isEmpty
      | .restoring | .ready | .saving | .halted => true

/-! ### Frames that stand ready -/

/-- In READY, a frame of a kind, with no terminal number and a body of a length, stands at the head of the OL inbound queue,
and the OL outbound queue has a place for its reply. -/
def Part.orderReady (p : Part) (kind : Byte) (length : Nat) (f : Frame) : Bool :=
  decide (p.control.startup = .ready) && decide (p.kept = none) && decide ((p.link .ol).inbound.head? = some f)
    && decide ((p.link .ol).outbound.length < Config.outboundPlaces) && decide (f.kind = kind) && decide (f.terminal = 0)
    && decide (f.body.length = length)

/-- The terminal's entry lets a frame from terminal link `t` pass the Roster: permitted, UNSEEN or ACTIVE, and not last
heard on another link within the duplicate window (R17 to R20). -/
def Part.admits (p : Part) (t : Tl) (n : Nat) : Bool :=
  p.permitted n && (decide ((p.terminal n).state = .unseen) || decide ((p.terminal n).state = .active))
    && match (p.terminal n).heard with
      | none => true
      | some h => decide (h.link = t) || decide (p.venue.duplicateWindow < (p.now - h.time).toNat)

/-- In READY, a frame of a kind stands at the head of terminal link `t`'s inbound queue, the Roster lets it pass, and the
outbound queue has a place for its reply. -/
def Part.terminalReady (p : Part) (t : Tl) (kind : Byte) (f : Frame) : Bool :=
  decide (p.control.startup = .ready) && decide (p.kept = none) && decide ((p.link (.tl t)).inbound.head? = some f)
    && decide ((p.link (.tl t)).outbound.length < Config.outboundPlaces) && decide (f.kind = kind)
    && p.admits t f.sender

/-- The part once the Roster has passed a frame from terminal link `t`: the terminal is ACTIVE, with the frame's link,
time, tag and kind (R20). -/
def Part.welcomed (p : Part) (t : Tl) (f : Frame) : Part :=
  p.setTerminal f.sender
    { p.terminal f.sender with state := .active, heard := some { link := t, time := p.now, tag := f.tag, kind := f.kind } }

/-- The part once the frame at the head of link `l`'s inbound queue has been taken and answered with a body: the frame has
left, the reply stands at the tail of the outbound queue, and the transmitter starts it when it can (R6, R7, R10). -/
def Part.answered (p : Part) (l : Link) (f : Frame) (body : List Byte) : Part :=
  let x := p.link l
  p.setLink l { x with
    inbound := x.inbound.tail, outbound := x.outbound ++ [replyFrame f body], sending := x.sending || x.rdyIn }

/-- The part once a request whose place was kept has been answered: the place is given up to the reply (R6). -/
def Part.concluded (p : Part) (l : Link) (f : Frame) (body : List Byte) : Part := { p.answered l f body with kept := none }

/-! ### Which command takes a frame (01, "Message kinds"; R4; log entry 17, DEDUCED) -/

/-- The command `c` is the one that takes the frame `f` from terminal link `t`, by its kind and, for LOOKUP and TENDER_STATUS, by a
check number of 0 in a body of the right length. -/
def takesFromTerminal (c : Instr) (t : Tl) (f : Frame) : Prop :=
  let byTable := f.body.length = 4 ∧ fieldAt f.body 0 2 = 0
  let ofFlight := f.body.length = 3 ∧ fieldAt f.body 0 2 = 0
  f.kind = 0x10 ∧ ¬byTable ∧ c = .lookup t ∨ f.kind = 0x10 ∧ byTable ∧ c = .lookupByTable t ∨
  f.kind = 0x11 ∧ c = .claim t ∨ f.kind = 0x12 ∧ c = .release t ∨ f.kind = 0x13 ∧ c = .present (.tl t) ∨
  f.kind = 0x14 ∧ c = .viewShare t ∨ f.kind = 0x15 ∧ c = .setPlan t ∨ f.kind = 0x16 ∧ c = .assignLine t ∨
  f.kind = 0x17 ∧ c = .payCard t ∨ f.kind = 0x18 ∧ c = .payCash t ∨ f.kind = 0x19 ∧ c = .voidTender t ∨
  f.kind = 0x1A ∧ ¬ofFlight ∧ c = .tenderStatus t ∨ f.kind = 0x1A ∧ ofFlight ∧ c = .tenderStatusFlight t

/-- The command `c` is the one that takes the frame `f` from OL, by its kind and, for READ_CHECK, RESOLVE_TENDER and
TERMINAL_CONTROL, by its section, resolution or action in a body of the right length; `waiting` says that the part waits for a
download, and STATUS, which is excepted from NOT_READY, is not among them. -/
def takesFromOrder (c : Instr) (waiting : Bool) (f : Frame) : Prop :=
  let names : Nat → Nat → Nat → Prop := fun length offset value => f.body.length = length ∧ fieldAt f.body offset 1 = value
  f.kind = 0x13 ∧ c = .present .ol ∨ f.kind = 0x30 ∧ c = .openCheck ∨ f.kind = 0x31 ∧ c = .addLine ∨
  f.kind = 0x32 ∧ c = .voidLine ∨ f.kind = 0x33 ∧ c = .setCovers ∨ f.kind = 0x34 ∧ c = .moveCheck ∨
  f.kind = 0x35 ∧ c = .closeCheck ∨ f.kind = 0x36 ∧ c = .discardCheck ∨
  f.kind = 0x37 ∧ (names 4 2 1 ∧ c = .readCheckLines ∨ names 4 2 2 ∧ c = .readCheckShares ∨ names 4 2 3 ∧ c = .readCheckTenders ∨
    ¬names 4 2 1 ∧ ¬names 4 2 2 ∧ ¬names 4 2 3 ∧ c = .readCheckSummary) ∨
  f.kind = 0x38 ∧ (names 10 3 2 ∧ c = .resolveTenderReverse ∨ ¬names 10 3 2 ∧ c = .resolveTenderAccept) ∨
  f.kind = 0x39 ∧ (names 3 2 2 ∧ c = .terminalControlBar ∨ names 3 2 3 ∧ c = .terminalControlUnbar ∨
    ¬names 3 2 2 ∧ ¬names 3 2 3 ∧ c = .terminalControlReset) ∨
  f.kind = 0x3A ∧ c = .readExceptions ∨ f.kind = 0x3B ∧ c = .clearException ∨ f.kind = 0x3D ∧ c = .calibrate ∨
  f.kind = 0x3E ∧ c = .restart ∨
  waiting = false ∧ (f.kind = 0x3F ∧ c = .configBegin ∨ f.kind = 0x40 ∧ c = .configRecord ∨ f.kind = 0x41 ∧ c = .configEnd)

/-- The command `c` is the one that takes the gateway frame `f` from AL, by its kind. -/
def takesFromGateway (c : Instr) (f : Frame) : Prop :=
  f.kind = 0x58 ∧ c = .authReply ∨ f.kind = 0x59 ∧ c = .reversalReply ∨ f.kind = 0x5A ∧ c = .submitReply ∨
  f.kind = 0x5B ∧ c = .gatewayError ∨ f.kind = 0x5C ∧ c = .linkAlive

/-! ### Advisories and late replies (R6, R8, R9, R24) -/

/-- The part while it handles a request from link `l`: one place of that link's outbound queue is kept for the reply (R6). -/
def Part.keeping (p : Part) (l : Link) : Part := { p with kept := some l }

/-- The free places of terminal link `t`'s outbound queue, the place kept for a reply not counted (R6). -/
def Part.places (p : Part) (t : Tl) : Nat :=
  16 - (p.link (.tl t)).outbound.length - (if p.kept = some (.tl t) then 1 else 0)

/-- A frame joins the tail of terminal link `t`'s outbound queue, and is started when RDY_IN is asserted (R10). -/
def Part.queues (p : Part) (t : Tl) (f : Frame) : Part :=
  let x := p.link (.tl t)
  p.setLink (.tl t) { x with outbound := x.outbound ++ [f], sending := x.sending || x.rdyIn }

/-- An advisory for terminal `n` (R9): it joins the outbound queue of the terminal's current link when a place is free beyond those
that held replies wait for, and else is counted lost there. A terminal never heard is sent nothing (log entry 18, DESIGN CHOICE). -/
def Part.told (p : Part) (n : Nat) (kind : Byte) (body : List Byte) : Part :=
  match (p.terminal n).heard with
  | none => p
  | some h =>
    let x := p.link (.tl h.link)
    if p.heldWaiting h.link < p.places h.link then
      p.queues h.link { kind := kind, tag := 0, terminal := BitVec.ofNat 16 n, body := body }
    else p.setLink (.tl h.link) { x with advisoriesLost := saturate 65535 x.advisoriesLost }

/-- A late reply for terminal `n` (R8, R24): it joins the outbound queue of the terminal's current link when a place is free, and
else is held under the next hold number. -/
def Part.lateSent (p : Part) (n : Nat) (f : Frame) : Part :=
  let held := { p with holdCounter := p.holdCounter + 1 }.setTerminal n
    { p.terminal n with held := some { frame := f, number := p.holdCounter } }
  match (p.terminal n).heard with
  | none => held
  | some h => if 0 < p.places h.link then p.queues h.link f else held

/-- A claim in a record is taken from its holder (R25, R96, R102 to R104): the record is freed, its deadline cancelled, the
holder's claim count lowered, and CLAIM_LOST sent with a cause. -/
def Part.deprived (cause : Nat) (p : Part) (x : Nat × Claim) : Part :=
  let e := p.terminal x.2.terminal
  let p := { p with clockUnit := { p.clockUnit with
    deadlines := p.clockUnit.deadlines.filter fun d => decide (d.owner ≠ Owner.claimLease x.1) } }
  ((p.setClaim x.1 none).setTerminal x.2.terminal { e with claimCount := e.claimCount - 1 }).told x.2.terminal 0x03
    (leBytes 2 x.2.check ++ leBytes 1 (match x.2.scope with | .whole => 0 | .share k => k) ++ leBytes 1 cause
      ++ timeBytes x.2.grantedAt)

/-- SHARE_CHANGED for the shares of `c` whose revision an event changed (R65, R66): each terminal that holds one of them, but the
one the event is attributed to, is told once of all that it holds; the terminals in the order of their claim records (log
entry 14, DESIGN CHOICE). -/
def Part.sharesTold (p : Part) (c : Check) (cause : Nat) (changed : List Nat) (attributed : Option Nat) : Part :=
  let claims := ((inUse p.claims).filter fun x => decide (x.2.check = c.number)).map fun x => x.2
  let holders := (claims.map fun x => x.terminal).eraseDups.filter fun n => decide (attributed ≠ some n)
  let entry := fun k : Nat => leBytes 1 k ++ leBytes 4 (c.share k).due ++ leSigned 4 (c.share k).remaining
    ++ leBytes 1 (c.share k).state.code ++ leBytes 2 (c.share k).revision.toNat
  holders.foldl (fun q n =>
    let mine := changed.filter fun k => claims.any fun x => decide (x.terminal = n) &&
      match x.scope with | .whole => true | .share i => decide (i = k)
    if mine = [] then q
    else q.told n 0x02 (leBytes 2 c.number ++ leBytes 1 cause ++ leBytes 1 mine.length ++ (mine.map entry).flatten)) p

/-! ### Acceptance (R42, R62, R63, R117) -/

/-- Check `c` once its tender `x` has been accepted at a time, in a state that counts as accepted: a check that is not anchored is
anchored, its plan FIXED, its share sets and class portions gone; the money enters the share, whose revision rises. -/
def Check.entered (c : Check) (x : Tender) (state : TenderState) (now : Time) : Check :=
  let b := { c with tenders := c.tenders.map fun y : Tender => if y.id = x.id then { y with state := state } else y }
  let a := if c.anchored then b else { b with
    state := .settling
    anchoredAt := some now
    plan := { c.plan with kind := .fixed, given := [] }
    lines := c.lines.map fun l => { l with shareSet := none }
    shares := tabulate 16 fun i => { c.share (i + 1) with portions := none } }
  a.setShare x.share { a.share x.share with
    applied := (a.share x.share).applied + x.amount
    tips := (a.share x.share).tips + x.payment.tip
    rounding := (a.share x.share).rounding + x.payment.rounding
    revision := (a.share x.share).revision + 1 }

/-- What a card tender `y` of check `c` does to the part as it leaves flight for a state (R116): the tender takes the state, its
terminal's in-flight flag is cleared, an accepted tender enters its share with the evaluation and SHARE_CHANGED, cause PAYMENT, to
the other holders (R117), the claim `z` in record `i` that it pinned is ACTIVE with a fresh lease, or lost when the holder is
SUSPECT or BARRED (R101), the evaluation runs, and the outcome goes to the terminal with the tag of its PAY_CARD and the figures
that stand then (R113). -/
def Part.outOfFlight (p : Part) (slot : Nat) (c : Check) (y : Tender) (state : TenderState) (i : Nat) (z : Claim) : Part :=
  let holder := p.terminal y.terminal
  let accepted := match state with
    | .approved _ | .deferred _ => true
    | _ => false
  let d := if accepted then c.entered y state p.now else
    { c with tenders := c.tenders.map fun w : Tender => if w.id = y.id then { w with state := state } else w }
  let p := (p.setCheck slot (some d)).setTerminal y.terminal { holder with inFlight := false }
  let p := if accepted then (p.evaluate slot).sharesTold d 3 [y.share] (some y.terminal) else p
  let p := match holder.state with
    | .unseen | .active => (p.setClaim i (some { z with state := .active })).rearm (.claimLease i) (seconds p.venue.claimLease)
    | .suspect => p.deprived 2 (i, z)
    | .barred => p.deprived 3 (i, z)
  let p := p.evaluate slot
  p.lateSent y.terminal {
    kind := 0x01
    tag := y.requestTag
    terminal := BitVec.ofNat 16 y.terminal
    body := leBytes 1 0 ++ leBytes 2 c.number ++ leBytes 1 y.id
      ++ leBytes 1 (match state with | .approved _ => 2 | .deferred _ => 3 | .declined _ => 4 | _ => 5)
      ++ leBytes 1 y.share ++ leBytes 4 y.amount ++ leBytes 4 y.payment.tip
      ++ (match state with | .approved code => code | _ => [0, 0, 0, 0, 0, 0])
      ++ leBytes 1 (match state with | .declined reason => reason | _ => 0)
      ++ leSigned 4 (d.share y.share).remaining ++ leBytes 2 (d.share y.share).revision.toNat
      ++ leBytes 1 ((p.checkAt slot).elim 0 fun b : Check => b.state.code) }

/-! ### The gateway link (R131) -/

/-- What a valid gateway frame does to the AL link before its own effect (R131, R133; the order is log entry 37, DEDUCED). -/
def Part.alMoved (p : Part) : Part :=
  let alive := seconds p.venue.aliveTimeout
  match p.alState with
  | .settling | .up => p.rearm .alAlive alive
  | .down =>
    if p.venue.settleInterval = 0 then Part.notice { p.arm .alAlive alive with alState := .up } 5 [2, 0, 1]
    else Part.notice { (p.arm .alAlive alive).arm .alSettle (seconds p.venue.settleInterval) with alState := .settling } 5
      [1, 0, 1]

/-! ### The memory -/

/-- The part once the PENDING journal slot `z` at `j` has been voided (R157, R160): the entry is VOID, its token wiped, the deferred
total falls by the auth amount, and MARK_VOID is requested; then ERASE of the head, where the head's entry is VOID and no ERASE of
it is outstanding (R158). -/
def Part.slotVoided (p : Part) (j : Nat) (z : Slot) : Part :=
  let port := p.port.request p.now (.markVoid j)
  let again := MemoryOp.erase p.journal.head true
  let headVoid := decide (p.journal.head = j) || (p.journal.slotAt p.journal.head).any fun w => decide (w.state = .void)
  { p with
    journal := { p.journal with
      mirror := p.journal.mirror.setIfInBounds j (some { z with state := .void, contents := { z.contents with token := [] } })
      deferredTotal := p.journal.deferredTotal - (z.contents.amount + z.contents.tip) }
    port := if headVoid = true ∧ again ∉ p.port.queue ∧ again ∉ p.port.waiting then port.request p.now again else port }

/-- The Memory Port once the operation at the head of its queue has left it, the others being `ops` (R149; log entry 43, DEDUCED). -/
def Part.portAfter (p : Part) (ops : List MemoryOp) : Port :=
  { queue := ops ++ p.port.waiting.take 1, waiting := p.port.waiting.drop 1, transfersDone := 0, transferStart := p.now,
    snapshot := none }

/-- The Memory Port once a transfer of a series that goes on has ended (R150; log entry 43, DEDUCED). -/
def Part.portNext (p : Part) : Port := { p.port with transfersDone := p.port.transfersDone + 1, transferStart := p.now }

/-- An exception of a kind and detail with no other field. -/
def bareException (kind detail : Nat) : ExceptionEntry :=
  { kind := kind, detail := detail, check := 0, table := 0, terminal := 0, tender := 0, amount := 0, sequence := none,
    code := none, number := 0, stamp := 0, slotStamp := 0 }

/-- The body of START_COMPLETE after the common fields (R184). -/
def Part.startBody (p : Part) : List Byte :=
  leBytes 1 p.control.straps.toNat
    ++ leBytes 1 (match p.control.source with | .defaults => 0 | .memory => 1 | .download => 2)
    ++ [flagByte p.control.clamped + 2 * flagByte p.control.defaulted + 4 * flagByte p.control.restorePartial
      + 8 * flagByte p.clockUnit.calFail]
    ++ leBytes 1 p.control.restored ++ leBytes 1 p.control.rejected ++ leBytes 1 p.control.unknowns

/-- The part enters READY, PFAIL low: START_COMPLETE is produced (R179, R184). -/
def Part.started (p : Part) : Part :=
  Part.notice { p with control := { p.control with startup := .ready } } 9 p.startBody

/-! ### The scan (R152, R162) -/

/-- Slot `k` of the memory, classified (R152). -/
def Memory.slotReading (m : Memory) (k : Nat) : SlotReading := classify (m.readAll (0x010000 + 128 * k) 128)

/-- Slot `k` of the memory is valid, with a sequence. -/
def Memory.holds (m : Memory) (k : Nat) (sequence : BitVec 32) : Prop :=
  k < 512 ∧ ∃ pending contents, m.slotReading k = .valid pending sequence contents

/-- `rank` orders the valid sequences as R162 compares them: by the distance from one that every other follows by less than 2^31,
and where there is none as unsigned numbers (log entry 27, DEDUCED). -/
def Memory.ranks (m : Memory) (rank : BitVec 32 → Nat) : Prop :=
  (∃ k b, m.holds k b ∧ (∀ j q, m.holds j q → (q - b).toNat < 2 ^ 31) ∧ ∀ q, rank q = (q - b).toNat) ∨
  ((∀ k b, m.holds k b → ∃ j q, m.holds j q ∧ 2 ^ 31 ≤ (q - b).toNat) ∧ ∀ q, rank q = q.toNat)

/-- The run of the memory's valid slots, by its head, its length and the head's sequence (R162, steps 1 and 2). -/
def Memory.hasRun (m : Memory) (head length : Nat) (first : BitVec 32) : Prop :=
  (head = 0 ∧ length = 0 ∧ first = 1 ∧ ∀ k q, ¬m.holds k q) ∨
  ∃ rank last lastSequence, m.ranks rank ∧ m.holds head first ∧ m.holds last lastSequence ∧
    length = (last + 512 - head) % 512 + 1 ∧
    (∀ k q, m.holds k q → rank first < rank q ∨ rank first = rank q ∧ head ≤ k) ∧
    (∀ k q, m.holds k q → rank q < rank lastSequence ∨
      rank q = rank lastSequence ∧ (last + 512 - head) % 512 ≤ (k + 512 - head) % 512)

/-! ### Requests that meet their checks -/

/-- What R110 asks of a PAY_CARD on check `c` in slot `slot`, share `k`, tip `tip`: the requester may tender, its claim covers
the share, the revision is the share's, the amount lies within what remains, the fields lie in their ranges, the tip stays
under the ceiling, and a tender record is free. -/
def Part.cardPayable (s : Part) (f : Frame) (slot : Nat) (c : Check) (k tip : Nat) : Prop :=
  18 ≤ f.body.length ∧ f.body.length = 18 + fieldAt f.body 17 1 ∧ (s.terminal f.sender).inFlight = false ∧
  (s.terminal f.sender).held = none ∧ s.findCheck (fieldAt f.body 0 2) = some (slot, c) ∧ k = fieldAt f.body 2 1 ∧
  s.holdsCover f.sender c.number k = true ∧ 1 ≤ k ∧ k ≤ c.plan.count ∧ fieldAt f.body 3 2 = (c.share k).revision.toNat ∧
  (c.share k).remaining ≠ 0 ∧ 1 ≤ fieldAt f.body 5 4 ∧ (fieldAt f.body 5 4 : Int) ≤ (c.share k).remaining ∧
  within 16 64 (fieldAt f.body 17 1) = true ∧ fieldAt f.body 9 1 ≤ 2 ∧
  fieldAt f.body 10 4 ≤ (if fieldAt f.body 9 1 = 0 then 99999999 else 100000) ∧ fieldAt f.body 14 1 ≤ 1 ∧
  fieldAt f.body 15 2 ≤ 9999 ∧ tip = workTip (fieldAt f.body 9 1) (fieldAt f.body 10 4) (fieldAt f.body 5 4) (c.share k) ∧
  tipWithin s.venue (c.share k) tip = true ∧ fieldAt f.body 5 4 + tip ≤ 99999999 ∧ c.tenders.length < 24 ∧
  s.tendersInUse < 768

/-- In READY, a well-formed gateway frame of a kind stands at the head of the AL inbound queue (R130, R131). -/
def Part.gatewayReady (p : Part) (kind : Byte) (f : Frame) : Bool :=
  decide (p.control.startup = .ready) && decide (p.kept = none) && decide ((p.link .al).inbound.head? = some f)
    && decide (f.kind = kind) && decide (f.terminal = 0) && f.answerOk

/-- The state whose part is `p`, with the commands that wait unchanged. -/
def State.become (s : State) (p : Part) : State := { s with toPart := p }

/-- The line that an ADD_LINE request on check `c` asks for, its fields in their ranges (R30, R37, R57). -/
def asksLine (f : Frame) (c : Check) (kind : LineKind) (line : Line) : Prop :=
  (kind = .item ∧ fieldAt f.body 2 1 = 0 ∨ kind = .discount ∧ fieldAt f.body 2 1 = 1) ∧ fieldAt f.body 7 1 ≤ 7 ∧
  within 1 99 (fieldAt f.body 12 1) = true ∧ kind.allows (signedValue 4 (fieldAt f.body 8 4)) = true ∧
  line = {
    number := c.lines.length + 1
    kind := kind
    code := BitVec.ofNat 32 (fieldAt f.body 3 4)
    cls := fieldAt f.body 7 1
    price := signedValue 4 (fieldAt f.body 8 4)
    quantity := fieldAt f.body 12 1
    amount := signedValue 4 (fieldAt f.body 8 4) * fieldAt f.body 12 1
    live := true
    shareSet := if c.plan.kind = .byItem then some (BitVec.ofNat 16 (2 ^ c.plan.count - 1)) else none }

/-- The command `i`, which asks check `c` in `slot` to take new lines and covers, does what R34 and R35 say for a check under a
rule plan; `fields` are the reply's fields after OK, from the new total. The holders of the shares whose due changed are
told, with cause RECOMPUTED (R65, R66). -/
def State.takesChange (s : State) (f : Frame) (slot : Nat) (c : Check) (lines : List Line) (covers : Nat) (i : Instr)
    (fields : Nat → List Byte) : Prop :=
  let totals := workTotals s.venue covers lines
  (∀ figures, negativeBase lines = false → totals.overLimit = false →
    recompute s.venue c.plan totals lines = .ok figures →
    ∃ d : Check, d = { c with lines := lines, covers := covers, totals := totals, shares := d.shares } ∧
      (∀ (k : Nat) (g : Figures), figures[k]? = some g → k < c.plan.count → d.share (k + 1) = { c.share (k + 1) with
        due := g.due
        preTax := g.preTax
        portions := g.portions
        revision := if (c.share (k + 1)).due ≠ g.due then (c.share (k + 1)).revision + 1
          else (c.share (k + 1)).revision }) ∧
      let changed := (List.range' 1 c.plan.count).filter fun k => decide ((c.share k).due ≠ (d.share k).due)
      exec i s = .next (s.become (((s.setCheck slot (some d)).sharesTold d 1 changed none).answered .ol f
        ([0] ++ fields totals.total)))) ∧
  (negativeBase lines = true → exec i s = .next (s.become (s.answered .ol f [0x30]))) ∧
  (negativeBase lines = false → totals.overLimit = true → exec i s = .next (s.become (s.answered .ol f [0x25]))) ∧
  (∀ r, negativeBase lines = false → totals.overLimit = false → recompute s.venue c.plan totals lines = .error r →
    exec i s = .next (s.become (s.answered .ol f (leBytes 1 r.code))))

/-- The command `i`, which asks check `c` in `slot` to take new lines and covers, does what R34 and R36 say for a check under
FIXED; `fields` are the reply's fields after OK, from the new total and the index of the share that took the difference, which
is 0 on a check that is not anchored (R37). The holders of that share are told, with cause DELTA (R65, R66), before the evaluation. -/
def State.chargesChange (s : State) (f : Frame) (slot : Nat) (c : Check) (lines : List Line) (covers : Nat) (i : Instr)
    (fields : Nat → Nat → List Byte) : Prop :=
  let totals := workTotals s.venue covers lines
  let delta : Int := (totals.total : Int) - c.totals.total
  let net : Int := (totals.itemNet : Int) - c.totals.itemNet
  let d : Check := { c with lines := lines, covers := covers, totals := totals }
  let accepted : Nat → Prop := fun k => ∃ x ∈ c.tenders, x.share = k ∧ x.state.accepted = true
  negativeBase lines = false → totals.overLimit = false →
  (delta = 0 → net = 0 →
    exec i s = .next (s.become ((s.setCheck slot (some d)).answered .ol f ([0] ++ fields totals.total 0)))) ∧
  (∀ k, delta ≠ 0 ∨ net ≠ 0 → 1 ≤ k → k ≤ c.plan.count → ¬accepted k → (∀ j, k < j → j ≤ c.plan.count → accepted j) →
    (0 ≤ (c.share k).due + delta →
      let due := ((c.share k).due + delta).toNat
      let e := d.setShare k { c.share k with
        due := due
        preTax := min ((c.share k).preTax + net).toNat due
        revision := (c.share k).revision + 1 }
      exec i s = .next (s.become (((((s.keeping .ol).setCheck slot (some e)).sharesTold e 2 [k] none).evaluate slot).concluded
        .ol f ([0] ++ fields totals.total (if c.anchored = true ∧ delta ≠ 0 then k else 0))))) ∧
    ((c.share k).due + delta < 0 → exec i s = .next (s.become (s.answered .ol f [0x32])))) ∧
  (delta ≠ 0 ∨ net ≠ 0 → (∀ k, 1 ≤ k → k ≤ c.plan.count → accepted k) →
    exec i s = .next (s.become (s.answered .ol f [0x32])))

/-! ### Runs -/

/-- Commands carried out one after another, as long as each answers a next state. -/
def carryOut : List Instr → State → Host.Outcome State Fault Refusal
  | [], s => .next s
  | c :: rest, s =>
    match exec c s with
    | .next t => carryOut rest t
    | .fault r => .fault r
    | .refused r => .refused r

/-- The commands by which bytes arrive on a link, the last of them completing a frame. -/
def arrivals (l : Link) : List Byte → List Instr
  | [] => []
  | [b] => [.frameComplete l b]
  | b :: rest => .byteReceived l b :: arrivals l rest

end Sys2Proof.Machine
end

