-- ==== Sys2Proof/Certificates/Slice0/Obligations.lean ====
section
/-! DEFINITION. Obligations.lean: the statements about the model. -/

open Sys2Proof Sys2Proof.Machine

/-! ### The machine -/

/-- A step takes the command at the front of the queue and carries it out on the state with the queue's rest. -/
def Obligations.StepRunsFrontCommand : Prop :=
  ∀ (c : Instr) (s : State), step { s with pending := c :: s.pending } = exec c s

/-- Every command answers a next state, and leaves the waiting commands alone. -/
def Obligations.EveryCommandAnswersNext : Prop :=
  ∀ (c : Instr) (s : State), ∃ p : Part, exec c s = .next (s.become (p))

/-- On an empty queue one system clock passes (the model's choice, log entry 9): while the part is in reset or HALTED
nothing changes; otherwise the tick counter and a COUNTING calibration count it, and the clock that completes the divisor is
the tick (R168, R169, R174). -/
def Obligations.EmptyQueuePassesOneSystemClock : Prop :=
  ∀ s : State, s.pending = [] →
    (s.control.startup = .reset ∨ s.control.startup = .halted → step s = .next s) ∧
    (s.control.startup ≠ .reset → s.control.startup ≠ .halted → s.clockUnit.tickCounter + 1 < s.clockUnit.divisor →
      step s = .next { s with clockUnit := { s.clockUnit with
        tickCounter := s.clockUnit.tickCounter + 1
        calibration := match s.clockUnit.calibration with
          | .idle => .idle
          | .waiting => .waiting
          | .counting edges clocks => .counting edges (clocks + 1) } }) ∧
    (s.control.startup ≠ .reset → s.control.startup ≠ .halted → s.clockUnit.divisor ≤ s.clockUnit.tickCounter + 1 →
      step s = exec .serviceClockTick s)

/-- What reset leaves, block by block, the hold counter among it (R15, R16, R24, R27, R92, R127, R131, R149, R153, R164, R168,
R169, R170, R173, R179, R184). -/
def Obligations.ResetHoldsTheResetValues : Prop :=
  let s := State.reset
  s.control.startup = .reset ∧ s.control.venue = Venue.defaults ∧ s.control.clamped = false ∧
  s.control.defaulted = false ∧ s.control.restorePartial = false ∧ s.control.imageStatus = .unread ∧
  (∀ l, (s.link l).receiver = .hunt false ∧ (s.link l).inbound = [] ∧ (s.link l).outbound = [] ∧
    (s.link l).crcErrors = 0 ∧ (s.link l).framingErrors = 0 ∧ (s.link l).overruns = 0 ∧ (s.link l).advisoriesLost = 0 ∧
    s.rdyOut l = false) ∧
  s.noticeList = [] ∧ s.noticeSequence = 0 ∧ s.noticesLost = 0 ∧ s.reheard = 0 ∧ s.staleReplies = 0 ∧ s.attn = false ∧
  (∀ n, within 1 96 n = true → (s.terminal n).state = .unseen ∧ (s.terminal n).heard = none ∧
    (s.terminal n).held = none ∧ (s.terminal n).inFlight = false ∧ (s.terminal n).claimCount = 0) ∧
  s.holdCounter = 0 ∧
  (∀ i, s.checkAt i = none) ∧ (∀ i, s.claimAt i = none) ∧
  (∀ i, (s.entryCell i).generation = 0 ∧ (s.entryCell i).use = none) ∧ s.freeList = List.range 48 ∧ s.sendQueue = [] ∧
  s.alState = .down ∧
  (∀ i, s.journal.slotAt i = none) ∧ s.journal.head = 0 ∧ s.journal.tail = 0 ∧ s.journal.nextSequence = 1 ∧
  s.journal.occupied = 0 ∧ s.journal.deferredTotal = 0 ∧ s.journal.highWater = false ∧ s.journal.locked = false ∧
  s.exceptions = [] ∧ s.exceptionNumber = 0 ∧ s.exceptionsLost = 0 ∧ s.port.queue = [] ∧ s.port.waiting = [] ∧
  s.clockUnit.clock = 0 ∧ s.clockUnit.divisor = 24000 ∧ s.clockUnit.second = 0 ∧ s.clockUnit.deadlines = [] ∧
  s.clockUnit.calibration = .idle ∧ s.clockUnit.calFail = false ∧ s.pending = []

/-! ### What holds in every state -/

/-- The reset state keeps the bounds, the phase, the claims' exclusion, the memory's canonical form, the deadline list's and the
journal's form: the invariants that the statements below say every step keeps. -/
def Obligations.InvariantsHoldAtReset : Prop :=
  State.reset.bounded = true ∧ State.reset.phased = true ∧ State.reset.claimsApart = true ∧
  State.reset.memory.wf = true ∧ State.reset.timed = true ∧ State.reset.journaled = true

/-- Every step keeps the bounds: inbound queues hold at most 8 frames, outbound queues 16, the notice list 32, the exception
list 64, the memory operation queue 16, with an operation waiting in line only behind a full queue; counters stay in their
widths; a partial frame is shorter than its length field says; no outbound place stays kept after a request (R2, R5, R6, R10,
R11, R13, R149, R164, R169). -/
def Obligations.EveryStepKeepsTheBounds : Prop :=
  ∀ s t : State, s.bounded = true → step s = .next t → t.bounded = true

/-- Every step moves the start-up state only as the table of R179 names, and keeps the controller's phase: what the
controller has outstanding at the Memory Port is what its state waits for (R179, R180, R183, R184, R189, R190). -/
def Obligations.EveryStepMovesStartupAsTabled : Prop :=
  ∀ s t : State, s.phased = true → step s = .next t →
    s.control.startup.mayMove t.control.startup = true ∧ t.phased = true

/-- On every check, the claims in use are one WHOLE claim alone, or share claims on pairwise distinct shares: every step keeps
this (R94). -/
def Obligations.EveryStepKeepsClaimsApart : Prop :=
  ∀ s t : State, s.claimsApart = true → step s = .next t → t.claimsApart = true

/-- The memory keeps its canonical form at every step. Only the end of a memory transfer, its limit and a reset change the
memory: no other command writes a byte of it (R150, R151). -/
def Obligations.MemoryKeepsItsFormAndContents : Prop :=
  (∀ s t : State, s.memory.wf = true → step s = .next t → t.memory.wf = true) ∧
  (∀ (c : Instr) (s t : State), (∀ e, c ≠ .memoryTransferEnd e) → c ≠ .operationLimit → c ≠ .resetNLow →
      (∀ x, c ≠ .internalReset x) → exec c s = .next t → ∀ a, t.memory.read a = s.memory.read a)

/-- The service clock is never set or stepped: its value changes only at a tick, by one, and at a reset, to 0 (R169). The
configuration in force changes only while the part is in LOADING, when it leaves RESET and at a reset (R179, R181). -/
def Obligations.ClockAndConfigurationHold : Prop :=
  (∀ (c : Instr) (s t : State), exec c s = .next t →
      t.now = s.now ∨ (c = .serviceClockTick ∧ t.now = s.now + 1) ∨
        ((c = .resetNLow ∨ ∃ x, c = .internalReset x) ∧ t.now = 0)) ∧
  (∀ (c : Instr) (s t : State), s.phased = true → exec c s = .next t → t.venue ≠ s.venue →
      s.control.startup = .loading ∨ (∃ x, c = .resetNRelease x) ∨ c = .resetNLow ∨ ∃ x, c = .internalReset x)

/-! ### Start-up, power and reset (11) -/

/-- RESET_N low, in any state: every block takes its reset values, the input pins keep their levels and the sampled straps their
value (that the straps keep it is log entry 34, DEDUCED; the reset values the manual does not give are log entry 1, DESIGN
CHOICE). The memory is unchanged unless a write was in progress, and then outside the bytes it was writing (and the marker of a
preservation image that was being written) (R151, R179, R191). -/
def Obligations.ResetNLowTakesEveryBlockToReset : Prop :=
  ∀ s : State, ∃ m n, exec .resetNLow s = .next (s.become ({ Part.initial m (fun l => (s.link l).rdyIn) s.pfail n with
        control := { Control.initial with straps := s.control.straps } })) ∧
    (s.transferring = none → m = s.memory) ∧
    (∀ op a, s.transferring = some op →
      (∀ start bytes, s.writeOf op = some (start, bytes) → a < start ∨ start + bytes.length ≤ a) →
      (op = .saveImage → a < 0x020000 ∨ 0x020004 ≤ a) → m.read a = s.memory.read a)

/-- The release of RESET_N: the straps are sampled. In mode DEFAULT the built-in configuration takes force at once and SCAN
is requested; in the two MEMORY modes LOAD_CONFIG is requested; in mode SERVER the part waits for a download (R179, R180,
R183, R184). The internal reset of RESTART, once the save is over, the memory queue and the waiting line are empty and the
RESTART reply has left OL: every block takes its reset values and the part starts as at the release of RESET_N (R190). That the
first transfer of SCAN and LOAD_CONFIG counts its 50 ms from this event is log entry 43 (DEDUCED); the reset values the manual
does not give, the tick counter's among them, are log entry 1 (DESIGN CHOICE). -/
def Obligations.StartUpFollowsTheStraps : Prop :=
  (∀ (s : State) (straps : BitVec 2), s.control.startup = .reset → s.port.queue = [] →
      (straps = 0b00#2 → exec (.resetNRelease straps) s = .next { s with
        control := { s.control with startup := .scanning, straps := straps, venue := Venue.defaults, source := .defaults,
                                    clamped := false, download := none }
        clockUnit := { s.clockUnit with nextDivisor := some 24000 }
        port := { s.port with queue := [.scan], transfersDone := 0, transferStart := s.now } }) ∧
      (straps = 0b01#2 ∨ straps = 0b11#2 → exec (.resetNRelease straps) s = .next { s with
        control := { s.control with startup := .loading, straps := straps }
        port := { s.port with queue := [.loadConfig], transfersDone := 0, transferStart := s.now } }) ∧
      (straps = 0b10#2 → exec (.resetNRelease straps) s = .next { s with
        control := { s.control with startup := .loading, straps := straps,
                                    download := some { declared := none, staged := [] } } })) ∧
  (∀ (s : State) (straps : BitVec 2), s.control.startup = .saving → s.control.restarting = true → s.port.queue = [] →
      s.port.waiting = [] → s.control.replyAhead = 0 →
      exec (.internalReset straps) s = exec (.resetNRelease straps) (s.become ({ Part.initial s.memory (fun l => (s.link l).rdyIn) s.pfail s.openBytes with
          control := { Control.initial with straps := s.control.straps } })))

/-- SAVING that no RESTART began ends in HALTED once SAVE_IMAGE has ended and no operation is outstanding; a calibration ends
without a notice (R169, R175, R189; that its state is IDLE and its guard stays in the list is log entry 35, DEDUCED). PFAIL
asserted in READY starts SAVING with SAVE_IMAGE requested behind every operation
already requested; in any other state, or deasserted, it changes nothing but the pin (R179, R189; that a
command carries the level of the pin, so that PFAIL can fall, is log entry 8, DEDUCED). RESTART is answered OK,
and the part enters SAVING as for PFAIL (R190). The internal reset waits for the frames that stand in the OL outbound queue
up to and including that reply. -/
def Obligations.PowerFailAndRestartSave : Prop :=
  ((∀ s : State, s.control.startup = .saving → s.control.restarting = false → s.port.queue = [] → s.port.waiting = [] →
      exec .enterHalted s = .next { s with
        control := { s.control with startup := .halted }, clockUnit := { s.clockUnit with calibration := .idle } }) ∧
    (∀ s : State, s.control.startup = .ready → exec (.pfailAsserted true) s = .next { s with
        pfail := true, control := { s.control with startup := .saving }, port := s.port.request s.now .saveImage }) ∧
    (∀ (s : State) (level : Bool), s.control.startup ≠ .ready ∨ level = false →
      exec (.pfailAsserted level) s = .next { s with pfail := level })) ∧
  (∀ (s : State) (f : Frame), s.orderReady 0x3E 0 f = true →
      exec .restart s = .next (s.become ({ s.answered .ol f [0] with
        control := { s.control with startup := .saving, restarting := true,
                                    replyAhead := (s.link .ol).outbound.length + 1 }
        port := s.port.request s.now .saveImage })))

/-- The configuration. The download: CONFIG_BEGIN declares a record count and drops what was staged, CONFIG_RECORD stages a
record, and CONFIG_END makes the staged configuration take force, clamped, and moves the part to SCANNING with SCAN requested
(R183). The end of LOAD_CONFIG: a valid image takes force, clamped; without one, and after a fault, which adds MEMORY_FAULT with
detail 4, the built-in defaults take force in mode MEMORY, with CONFIG_DEFAULTED, and in mode MEMORY-then-SERVER the part waits
for a download (R180; how many transfers the operation has is log entry 15, when a transfer begins and is over its limit entries
42 and 43, that one which ends 50 ms or more after it began ends well unless OPERATION_LIMIT came first entry 47: the model's
choices). Clamping: in every field of R181 a value outside its range takes force as the nearer end, a cash unit as the largest
allowed unit not above it or 1, any other as it is; the record is reported clamped exactly when a value lies outside (R182); the
permits are those of R180. -/
def Obligations.TheDownloadConfiguresThePart : Prop :=
  (∀ (s : State) (f : Frame) (d : Download), s.control.startup = .loading → s.control.download = some d → s.kept = none →
    (s.link .ol).inbound.head? = some f → (s.link .ol).outbound.length < 16 → f.terminal = 0 →
    (∀ n : Nat, f.kind = 0x3F → (n = 1 ∨ n = 2) → f.body = leBytes 1 n → exec .configBegin s = .next (s.become ({ s.answered .ol f [0] with
        control := { s.control with download := some { declared := some n, staged := [] } } }))) ∧
    (∀ n : Nat, f.kind = 0x40 → f.body.length = 64 → d.declared = some n → d.staged.length < n →
      (recordKind f.body = 1 ∨ recordKind f.body = 2) → (∀ r ∈ d.staged, recordKind r ≠ recordKind f.body) →
      exec .configRecord s = .next (s.become ({ s.answered .ol f (0 :: leBytes 1 (d.staged.length + 1)) with
          control := { s.control with download := some { d with staged := d.staged ++ [f.body] } } }))) ∧
    (∀ venue : List Byte, f.kind = 0x41 → f.body = [] → d.declared = some d.staged.length → venue ∈ d.staged →
      recordKind venue = 1 → (∀ r ∈ d.staged, recordKind r = 1 → r = venue) →
      exec .configEnd s = .next (s.become ({ s.answered .ol f [0, flagByte (venueClamped venue)] with
          control := { s.control with
            startup := .scanning, venue := venueOf venue (recordOf 2 d.staged), source := .download,
            clamped := venueClamped venue, download := none }
          clockUnit := { s.clockUnit with nextDivisor := some (venueOf venue none).tickDivisor }
          port := s.port.request s.now .scan })))) ∧
  (∀ s : State, s.control.startup = .loading → s.port.queue = [.loadConfig] → s.port.waiting = [] →
    s.journal.eraseAgain = false →
    let header := s.memory.readAll 0 16
    let records := (List.range (fieldAt header 6 1)).map fun i => s.memory.readAll (16 + 64 * i) 64
    let ofKind := fun kind : Nat => records.filter fun r => decide (fieldAt r 0 1 = kind)
    let valid := header.take 4 = [0x52, 0x43, 0x46, 0x47] ∧ fieldAt header 4 2 = 1 ∧ (records.length = 1 ∨ records.length = 2) ∧
      fieldAt header 8 2 = (crc16 ((header.drop 4).take 4 ++ records.flatten)).toNat ∧
      (∀ r ∈ records, fieldAt r 0 1 = 1 ∨ fieldAt r 0 1 = 2) ∧ (ofKind 1).length = 1 ∧ (ofKind 2).length ≤ 1
    let takes : Part → Venue → ConfigSource → Bool → Part := fun p venue source clamped => { p with
      control := { p.control with startup := .scanning, venue := venue, source := source, clamped := clamped, download := none }
      clockUnit := { p.clockUnit with nextDivisor := some venue.tickDivisor }
      port := { queue := [.scan], waiting := [], transfersDone := 0, transferStart := p.now, snapshot := none } }
    let missing : Part → Part := fun p =>
      if s.control.straps = 0b01 then
        takes { p with control := { p.control with defaulted := true } } Venue.defaults .defaults false
      else { p with
        control := { p.control with download := some { declared := none, staged := [] } }
        port := { queue := [], waiting := [], transfersDone := 0, transferStart := p.now, snapshot := none } }
    (s.port.transfersDone < (64 * fieldAt header 6 1 + 255) / 256 →
      exec (.memoryTransferEnd false) s = .next { s with port := s.portNext }) ∧
    (s.port.transfersDone = (64 * fieldAt header 6 1 + 255) / 256 →
      (∀ venue, valid → (ofKind 1).head? = some venue → exec (.memoryTransferEnd false) s = .next (s.become
        (takes s.toPart (venueOf venue (ofKind 2).head?) .memory (venueClamped venue)))) ∧
      (¬valid → exec (.memoryTransferEnd false) s = .next (s.become (missing s.toPart)))) ∧
    (50 ≤ (s.now - s.port.transferStart).toNat →
      exec .operationLimit s = .next (s.become (missing (s.raise (bareException 6 4)))))) ∧
  (∀ (r : List Byte) (permit : Option (List Byte)),
    let v := venueOf r permit
    let table : List (Nat × Nat × Nat × Nat) := [(1, 1, 0, 1), (2, 2, 0, 30000), (4, 2, 0, 30000), (6, 2, 0, 30000),
      (8, 2, 0, 30000), (10, 2, 0, 30000), (12, 2, 0, 30000), (14, 2, 0, 30000), (16, 2, 0, 30000), (18, 2, 0, 30000),
      (20, 1, 0, 40), (22, 4, 0, 100000), (26, 2, 30, 600), (28, 1, 3, 60), (29, 2, 10, 600), (31, 1, 1, 30),
      (32, 1, 0, 120), (33, 2, 50, 2000), (35, 2, 0, 3600), (37, 4, 0, 99999999), (41, 4, 0, 99999999), (45, 1, 1, 16),
      (46, 1, 1, 4), (47, 2, 1, 512), (49, 2, 23280, 24720)]
    let values := [v.inclusive.toNat] ++ v.rates.toList ++ [v.serviceRate, v.serviceThreshold, v.tipCeiling, v.claimLease,
      v.authTimeout, v.lateWindow, v.aliveTimeout, v.settleInterval, v.duplicateWindow, v.dwellThreshold, v.floorLimit,
      v.offlineCeiling, v.window, v.drainShare, v.highWater, v.tickDivisor]
    let units := [1, 2, 5, 10, 20, 25, 50, 100]
    values.length = table.length ∧
    (∀ i offset width low high value : Nat, table[i]? = some (offset, width, low, high) → values[i]? = some value →
      let given := fieldAt r offset width
      value = if given < low then low else if high < given then high else given) ∧
    (v.cashUnit ∈ units ∧ ((v.cashUnit ≤ fieldAt r 21 1 ∧ ∀ u ∈ units, u ≤ fieldAt r 21 1 → u ≤ v.cashUnit) ∨
      fieldAt r 21 1 = 0 ∧ v.cashUnit = 1)) ∧
    (venueClamped r = true ↔ fieldAt r 21 1 ∉ units ∨ ∃ offset width low high, (offset, width, low, high) ∈ table ∧
      (fieldAt r offset width < low ∨ high < fieldAt r offset width)) ∧
    (permit = none → v.permits = BitVec.allOnes 96) ∧
    (∀ x n, permit = some x → x.length = 64 → 1 ≤ n → n ≤ 96 →
      v.permits.getLsbD (n - 1) = (x.getD (1 + (n - 1) / 8) 0).getLsbD ((n - 1) % 8)))

/-- The end of SCAN (R162, R163). The run goes from the valid slot with the lowest sequence to the one with the highest (R162,
step 2; `hasRun`; how sequences compare is log entry 27, DEDUCED). A slot of the run enters the mirror as read when its sequence
is the expected one, and else VOID with the expected one, its token wiped (the other contents of a damaged or EMPTY slot's entry
are log entry 49, DESIGN CHOICE); a slot outside it is EMPTY. MARK_VOID is requested for the run's slots that are valid out of
order or damaged, ERASE for the slots outside that are not EMPTY, each with JOURNAL_DAMAGED, in order; then ERASE of a head that
is VOID. The tail follows the run, the next sequence the run's last expected one (log entry 10, DEDUCED), the occupied count is
the run's length, the deferred total the sum over the PENDING entries, and JOURNAL_HIGH is produced when the count is at or above
the mark (R161). RESTORING follows, with READ_IMAGE requested (R184). A SCAN that faults adds MEMORY_FAULT with detail 5, sets the
lock, leaves every entry EMPTY and the occupied count at 512 (R163); the 50 ms are log entries 42 and 43 (DEDUCED). The model's
choices: a transfer that ends 50 ms or more after it began ends well unless OPERATION_LIMIT came first (log entry 47), and the
Amount of JOURNAL_DAMAGED is the slot's amount plus its tip (log entry 64). -/
def Obligations.TheScanRebuildsTheJournal : Prop :=
  (∀ (s : State) (head length : Nat) (first : BitVec 32), s.control.startup = .scanning → s.port.queue = [.scan] →
    s.port.waiting = [] → s.port.transfersDone = 511 → s.memory.hasRun head length first →
    let r := s.memory.slotReading
    let slot := fun d : Nat => (head + d) % 512
    let expected := fun d : Nat => first + BitVec.ofNat 32 d
    let nothing : SlotContents :=
      { check := 0, table := 0, terminal := 0, tender := 0, amount := 0, tip := 0, stamp := 0, token := [] }
    let entry : Nat → Slot := fun d =>
      match r (slot d) with
      | .valid pending sequence contents =>
        if sequence = expected d then
          { state := if pending then .pending else .void, sequence := sequence, contents := contents }
        else { state := .void, sequence := expected d, contents := { contents with token := [] } }
      | .damaged | .empty => { state := .void, sequence := expected d, contents := nothing }
    let faulty := (List.range length).filter fun d =>
      match r (slot d) with
      | .valid _ sequence _ => decide (sequence ≠ expected d)
      | .damaged => true
      | .empty => false
    let strays := (List.range 512).filter fun k => decide (length ≤ (k + 512 - head) % 512) && decide (r k ≠ .empty)
    let damaged : Nat → Option (BitVec 32) → ExceptionEntry := fun k sequence =>
      match r k with
      | .valid _ read x => { bareException 5 k with
          check := x.check, table := x.table, terminal := x.terminal, tender := x.tender, amount := x.amount + x.tip
          sequence := some read, slotStamp := x.stamp }
      | .damaged | .empty => { bareException 5 k with sequence := sequence }
    let pending := (List.range length).filter fun d => decide ((entry d).state = .pending)
    let total := (pending.map fun d => (entry d).contents.amount + (entry d).contents.tip).sum
    let headVoid := decide (0 < length) && decide ((entry 0).state = .void)
    let ops : List MemoryOp := faulty.map (fun d => .markVoid (slot d)) ++ strays.map (fun k => .erase k false)
      ++ (if headVoid then [.erase head true] else []) ++ [.readImage]
    let exceptions := faulty.map (fun d => damaged (slot d) (some (expected d))) ++ strays.map fun k => damaged k none
    let high := decide (s.venue.highWater ≤ length)
    ∃ mirror : Vector (Option Slot) 512,
      (∀ d, d < length → mirror[slot d]? = some (some (entry d))) ∧
      (∀ k, k < 512 → length ≤ (k + 512 - head) % 512 → mirror[k]? = some none) ∧
      let p : Part := exceptions.foldl Part.raise { s with
        journal :=
          { mirror := mirror, head := head, tail := (head + length) % 512, nextSequence := first + BitVec.ofNat 32 length,
            occupied := length, deferredTotal := total, highWater := high, locked := false, eraseAgain := false }
        port := ops.foldl (fun q op => q.request s.now op) (s.portAfter [])
        control := { s.control with startup := .restoring } }
      exec (.memoryTransferEnd false) s = .next (s.become (if high then p.notice 6 (leBytes 2 length
        ++ leBytes 2 s.venue.highWater ++ leBytes 2 pending.length ++ leBytes 4 total) else p))) ∧
  (∀ s : State, s.control.startup = .scanning → s.port.queue = [.scan] → s.port.waiting = [] →
    50 ≤ (s.now - s.port.transferStart).toNat →
    let high := decide (s.venue.highWater ≤ 512)
    let p : Part := { s with
      journal := { Journal.initial with occupied := 512, locked := true, highWater := high }
      port := { s.portAfter [] with queue := [.readImage] }
      control := { s.control with startup := .restoring } }.raise (bareException 6 5)
    exec .operationLimit s = .next (s.become
      (if high then p.notice 6 (leBytes 2 512 ++ leBytes 2 s.venue.highWater ++ [0, 0, 0, 0, 0, 0]) else p)))

/-! ### Links, frames and notices (01) -/

/-- RDY_OUT by start-up state and inbound queue, as the table of R1 gives it; while it is deasserted before READY, the receivers
of the terminal links and of AL take frames into their queues all the same. ATTN stands while a notice waits in the list or a
notice frame stands in the OL outbound queue, and is low after reset (R12). That a frame whose last byte comes 20 ms or more after
the one before is completed all the same, unless the timeout came first, is log entry 44 (DESIGN CHOICE). -/
def Obligations.OutputLinesFollowTheState : Prop :=
  (∀ (p : Part) (l : Link), p.rdyOut l =
      match p.control.startup with
      | .reset | .saving | .halted => false
      | .loading | .scanning | .restoring => decide (l = .ol) && decide ((p.link .ol).inbound.length < 8)
      | .ready => decide ((p.link l).inbound.length < 8)) ∧
  (∀ (s : State) (l : Link) (b : Byte) (length : Nat) (got : List Byte) (last : Time),
      s.control.startup = .loading ∨ s.control.startup = .scanning ∨ s.control.startup = .restoring → l ≠ .ol →
      (s.link l).receiver = .body length got last → got.length + 1 = length → (s.link l).inbound.length < 8 →
      fieldAt (got ++ [b]) (length - 2) 2 = (crc16 (leBytes 2 length ++ (got ++ [b]).take (length - 2))).toNat →
      ∃ f, exec (.frameComplete l b) s = .next (s.become (s.setLink l { s.link l with
        receiver := .hunt false, inbound := (s.link l).inbound ++ [f] }))) ∧
  (∀ p : Part, p.attn = true ↔ p.noticeList ≠ [] ∨ ∃ f ∈ (p.link .ol).outbound, f.kind = 0x04) ∧
  State.reset.attn = false

/-- A byte that does not complete a frame, by the receiver's state (R2). A byte with a stop-bit error in any state, and 20 ms
without a byte inside a frame, drop what was assembled, add one to FRAMING_ERRORS and return the receiver to HUNT; after reset
every receiver is in HUNT (R2). The model's choices: a stop-bit error in HUNT enters HUNT anew (log entry 20), 20 ms are reached
at a clock difference of 20 (log entry 42), before that the timeout does nothing (log entry 5), and a byte that arrives later
continues the frame unless the timeout came first (log entry 44). -/
def Obligations.ReceiverTakesBytesAndDropsBrokenFrames : Prop :=
  (∀ (s : State) (l : Link) (b : Byte), s.control.startup.running = true →
      let x := s.link l
      (∀ counted, x.receiver = .hunt counted → b = 0xA5 →
        exec (.byteReceived l b) s = .next (s.become (s.setLink l { x with receiver := .header none s.now }))) ∧
      (x.receiver = .hunt false → b ≠ 0xA5 →
        exec (.byteReceived l b) s = .next (s.become (s.setLink l { x with receiver := .hunt true, framingErrors := saturate 65535 x.framingErrors }))) ∧
      (x.receiver = .hunt true → b ≠ 0xA5 → exec (.byteReceived l b) s = .next (s.become (s.setLink l x))) ∧
      (∀ last, x.receiver = .header none last →
        exec (.byteReceived l b) s = .next (s.become (s.setLink l { x with receiver := .header (some b) s.now }))) ∧
      (∀ low last, x.receiver = .header (some low) last → within 6 297 (low.toNat + 256 * b.toNat) = true →
        exec (.byteReceived l b) s = .next (s.become (s.setLink l { x with receiver := .body (low.toNat + 256 * b.toNat) [] s.now }))) ∧
      (∀ low last, x.receiver = .header (some low) last → within 6 297 (low.toNat + 256 * b.toNat) = false →
        exec (.byteReceived l b) s = .next (s.become (s.setLink l { x with receiver := .hunt false, framingErrors := saturate 65535 x.framingErrors }))) ∧
      (∀ length got last, x.receiver = .body length got last → got.length + 1 < length →
        exec (.byteReceived l b) s = .next (s.become (s.setLink l { x with receiver := .body length (got ++ [b]) s.now })))) ∧
  (∀ (s : State) (l : Link), s.control.startup.running = true →
      let x := s.link l
      let dropped := { x with receiver := .hunt false, framingErrors := saturate 65535 x.framingErrors }
      exec (.stopBitError l) s = .next (s.become (s.setLink l dropped)) ∧
      (∀ last, x.lastByte = some last → 20 ≤ (s.now - last).toNat →
        exec (.interByteTimeout l) s = .next (s.become (s.setLink l dropped))) ∧
      (∀ last, x.lastByte = some last → (s.now - last).toNat < 20 → exec (.interByteTimeout l) s = .next s)) ∧
  (∀ l : Link, (State.reset.link l).receiver = .hunt false)

/-- The byte that completes a frame: a frame whose check value disagrees is counted in CRC_ERRORS; one that agrees joins the
inbound queue, or is counted in OVERRUNS when the queue holds 8; the receiver returns to HUNT (R2, R3, R5). A last byte that
comes 20 ms or more after the one before completes the frame unless the timeout came first (log entry 44, DESIGN CHOICE). -/
def Obligations.ReceiverCompletesAFrame : Prop :=
  ∀ (s : State) (l : Link) (b : Byte) (length : Nat) (got : List Byte) (last : Time),
    s.control.startup.running = true → (s.link l).receiver = .body length got last → got.length + 1 = length →
    let x := s.link l
    let bytes := got ++ [b]
    let agrees := fieldAt bytes (length - 2) 2 = (crc16 (leBytes 2 length ++ bytes.take (length - 2))).toNat
    (¬agrees → exec (.frameComplete l b) s = .next (s.become (s.setLink l { x with receiver := .hunt false, crcErrors := saturate 65535 x.crcErrors }))) ∧
    (agrees → x.inbound.length < 8 → exec (.frameComplete l b) s = .next (s.become (s.setLink l { x with
        receiver := .hunt false,
        inbound := x.inbound ++ [{ kind := bytes.getD 0 0, tag := bytes.getD 1 0,
                                   terminal := BitVec.ofNat 16 (fieldAt bytes 2 2),
                                   body := (bytes.take (length - 2)).drop 4 }] }))) ∧
    (agrees → 8 ≤ x.inbound.length → exec (.frameComplete l b) s = .next (s.become (s.setLink l { x with receiver := .hunt false, overruns := saturate 65535 x.overruns })))

/-- FRAMES ROUND TRIP: the bytes of any frame of 0 to 291 body bytes, sent one after another into a receiver in HUNT whose
queue has a place, put exactly that frame at the tail of the inbound queue and change nothing else (01, "Frame format";
R2, R3, R5). -/
def Obligations.SentFramesAreReceivedWhole : Prop :=
  ∀ (s : State) (l : Link) (f : Frame) (counted : Bool), s.control.startup.running = true →
    (s.link l).receiver = .hunt counted → (s.link l).inbound.length < 8 → f.body.length ≤ 291 →
    carryOut (arrivals l (frameBytes f)) s = .next (s.become (s.setLink l { s.link l with receiver := .hunt false, inbound := (s.link l).inbound ++ [f] }))

/-- The transmitter: the frame whose last byte has gone leaves the outbound queue, and the next one starts while RDY_IN is
asserted and the part is not HALTED; an idle transmitter with a frame to send starts when RDY_IN is asserted; a fall of
RDY_IN stops no frame that has started (R10, R15). That a transmission starts at once is log entry 40 (DEDUCED), and that a command
carries the level of RDY_IN log entry 8 (DEDUCED). -/
def Obligations.TransmitterSendsInOrder : Prop :=
  ∀ (s : State) (l : Link),
    let x := s.link l
    (∀ f rest, s.control.startup.running = true → l ≠ .ol → x.sending = true → x.outbound = f :: rest →
      exec (.frameTransmitted l) s = .next (s.become (s.setLink l { x with outbound := rest, sending := x.rdyIn && !rest.isEmpty }))) ∧
    (∀ f rest, s.control.startup.running = true → l = .ol → x.sending = true → x.outbound = f :: rest →
      exec (.frameTransmitted l) s = .next (s.become ({ s.setLink l { x with outbound := rest, sending := x.rdyIn && !rest.isEmpty } with
          control := { s.control with replyAhead := s.control.replyAhead - 1 } }))) ∧
    (∀ f rest, s.control.startup = .halted → l ≠ .ol → x.sending = true → x.outbound = f :: rest →
      exec (.frameTransmitted l) s = .next (s.become (s.setLink l { x with outbound := rest, sending := false }))) ∧
    (s.control.startup.running = true → exec (.rdyInAsserted l true) s = .next (s.become (s.setLink l { x with rdyIn := true, sending := x.sending || !x.outbound.isEmpty }))) ∧
    exec (.rdyInAsserted l false) s = .next (s.become (s.setLink l { x with rdyIn := false }))

/-- A held reply moves into its terminal's current link when that link's queue has a place, leaving its slot empty; no other
held reply for that link has a lower hold number (R8, R24). -/
def Obligations.HeldRepliesMoveOldestFirst : Prop :=
  ∀ (s : State) (t : Tl) (n : Nat) (r : HeldReply), s.control.startup.running = true → s.kept = none →
    (s.link (.tl t)).outbound.length < 16 → within 1 96 n = true → (s.terminal n).held = some r →
    (∃ h, (s.terminal n).heard = some h ∧ h.link = t) →
    (∀ m r' h, within 1 96 m = true → m ≠ n → (s.terminal m).held = some r' → (s.terminal m).heard = some h → h.link = t →
      later r'.number r.number = true) →
    exec (.heldReplyMove t) s = .next (s.become ((s.setTerminal n { s.terminal n with held := none }).setLink (.tl t)
        { s.link (.tl t) with
          outbound := (s.link (.tl t)).outbound ++ [r.frame]
          sending := (s.link (.tl t)).sending || (s.link (.tl t)).rdyIn }))

/-- A notice takes the next sequence value in its tag and is placed: in the OL queue when the list is empty and the queue has
two free places, else in the list when it holds fewer than 32, else it is dropped and counted (R11). A notice that an OL request
produces counts only the places other than the one kept for the reply (R6). The oldest notice of the list moves when the OL queue
has two free places. -/
def Obligations.NoticesKeepTheirOrder : Prop :=
  (∀ (p : Part) (kind : Nat) (fields : List Byte),
    let taken := (p.link .ol).outbound.length + if p.kept = some .ol then 1 else 0
    let f : Frame := { kind := 0x04, tag := p.noticeSequence, terminal := 0, body := leBytes 1 kind ++ timeBytes p.now ++ fields }
    let q := p.notice kind fields
    q.noticeSequence = p.noticeSequence + 1 ∧ q.kept = p.kept ∧
    (p.noticeList = [] → taken ≤ 14 →
      (q.link .ol).outbound = (p.link .ol).outbound ++ [f] ∧ q.noticeList = [] ∧ q.noticesLost = p.noticesLost) ∧
    (p.noticeList ≠ [] ∨ 14 < taken → p.noticeList.length < 32 →
      q.links = p.links ∧ q.noticeList = p.noticeList ++ [f] ∧ q.noticesLost = p.noticesLost) ∧
    (32 ≤ p.noticeList.length →
      q.links = p.links ∧ q.noticeList = p.noticeList ∧ q.noticesLost = saturate 255 p.noticesLost)) ∧
  (∀ (s : State) (f : Frame) (rest : List Frame), s.control.startup.running = true → s.kept = none →
    s.noticeList = f :: rest → (s.link .ol).outbound.length ≤ 14 →
    exec .noticeMove s = .next (s.become ({ s.setLink .ol { s.link .ol with
          outbound := (s.link .ol).outbound ++ [f]
          sending := (s.link .ol).sending || (s.link .ol).rdyIn } with
        noticeList := rest })))

/-- A frame whose kind its link does not accept is refused BAD_KIND in every state in which frames are taken, and reaches
nothing behind the link; on AL it is discarded and counted, before READY as well (R4; before READY the model's choice, log entry
7). Before READY every terminal request, and every OL request that is not excepted, is refused NOT_READY and changes nothing
behind the link: neither the terminal's entry nor any check; a gateway frame of an accepted kind is discarded without being
counted (R4). The reply to an OL request with a nonzero terminal field echoes that field, where R7 says 0 (log entry 45, DESIGN
CHOICE). Which row of the table takes which frame is spelled out in `takesFromTerminal`, `takesFromOrder` and
`takesFromGateway` (log entry 17, DEDUCED). -/
def Obligations.LinksRefuseWhatTheyDoNotTake : Prop :=
  (∀ (s : State) (l : Link) (f : Frame), s.control.startup.takesFrames = true → s.kept = none →
      (s.link l).inbound.head? = some f → f.kind ∉ Link.accepts l →
      (l ≠ .al → (s.link l).outbound.length < 16 →
        exec (.unacceptedKindFrame l) s = .next (s.become (s.answered l f [0x01]))) ∧
      (l = .al → exec (.unacceptedKindFrame l) s = .next (s.become (s.setLink .al { s.link .al with
          inbound := (s.link .al).inbound.tail
          framingErrors := saturate 65535 (s.link .al).framingErrors })))) ∧
  (∀ (s : State) (f : Frame) (c : Instr),
      (s.control.startup = .loading ∨ s.control.startup = .scanning ∨ s.control.startup = .restoring) → s.kept = none →
      (∀ t, (s.link (.tl t)).inbound.head? = some f → (s.link (.tl t)).outbound.length < 16 → takesFromTerminal c t f →
        exec c s = .next (s.become (s.answered (.tl t) f [0x03]))) ∧
      ((s.link .ol).inbound.head? = some f → (s.link .ol).outbound.length < 16 →
        takesFromOrder c s.control.download.isSome f → exec c s = .next (s.become (s.answered .ol f [0x03]))) ∧
      ((s.link .al).inbound.head? = some f → f.terminal = 0 → takesFromGateway c f →
        exec c s = .next (s.become (s.setLink .al { s.link .al with inbound := (s.link .al).inbound.tail }))))

/-- STATUS, in LOADING, SCANNING, RESTORING and READY: the reply of 73 bytes reports the part as it stands when the request is
taken, byte for byte as R14 lays it out: the start-up state, the AL state, the flags, the check slots, line records, tender records
and claim records in use, the entries not FREE, the occupied count, the deferred total, the counts of the exception, deadline and
notice lists, NOTICES_LOST, REHEARD, STALE_REPLIES, and for each link CRC_ERRORS, FRAMING_ERRORS, OVERRUNS and ADVISORIES_LOST, the
last 0 for OL and AL. Every counter it reports is then 0 (R13), and nothing else changes. -/
def Obligations.StatusReportsAndClearsTheCounters : Prop :=
  ∀ (s : State) (f : Frame), s.control.startup.takesFrames = true → s.kept = none →
    (s.link .ol).inbound.head? = some f → (s.link .ol).outbound.length < 16 → f.kind = 0x3C → f.terminal = 0 → f.body = [] →
    let checks := (List.range 160).filterMap s.checkAt
    let counters := fun (x : LinkState) (advisoriesLost : Nat) =>
      leBytes 2 x.crcErrors ++ leBytes 2 x.framingErrors ++ leBytes 2 x.overruns ++ leBytes 2 advisoriesLost
    let ofTerminal := fun t : Tl => counters (s.link (.tl t)) (s.link (.tl t)).advisoriesLost
    let fields :=
      leBytes 1 (match s.control.startup with
          | .loading => 1 | .scanning => 2 | .restoring => 3 | .ready => 4 | .reset | .saving | .halted => 0)
        ++ leBytes 1 (match s.alState with | .down => 0 | .settling => 1 | .up => 2)
        ++ [flagByte s.control.clamped + 2 * flagByte s.control.defaulted + 4 * flagByte s.control.restorePartial
          + 8 * flagByte s.clockUnit.calFail]
        ++ leBytes 1 checks.length ++ leBytes 2 (checks.map fun c => c.lines.length).sum
        ++ leBytes 2 (checks.map fun c => c.tenders.length).sum ++ leBytes 1 ((List.range 64).filterMap s.claimAt).length
        ++ leBytes 1 ((List.range 48).filterMap fun e => (s.entryCell e).use).length
        ++ leBytes 2 s.journal.occupied ++ leBytes 4 s.journal.deferredTotal
        ++ leBytes 1 s.exceptions.length ++ leBytes 1 s.clockUnit.deadlines.length ++ leBytes 1 s.noticeList.length
        ++ leBytes 1 s.noticesLost ++ leBytes 2 s.reheard ++ leBytes 2 s.staleReplies
        ++ ofTerminal .tl0 ++ ofTerminal .tl1 ++ ofTerminal .tl2 ++ ofTerminal .tl3
        ++ counters (s.link .ol) 0 ++ counters (s.link .al) 0
    let cleared := fun x : LinkState => { x with crcErrors := 0, framingErrors := 0, overruns := 0, advisoriesLost := 0 }
    let p := s.answered .ol f (0 :: fields)
    (0 :: fields).length = 73 ∧
    exec .status s = .next (s.become { p with
      links := {
        tl0 := cleared (p.link (.tl .tl0)), tl1 := cleared (p.link (.tl .tl1)), tl2 := cleared (p.link (.tl .tl2))
        tl3 := cleared (p.link (.tl .tl3)), ol := cleared (p.link .ol), al := cleared (p.link .al) }
      noticesLost := 0, reheard := 0, staleReplies := 0 })

/-! ### The preservation image (11) -/

/-- READ_IMAGE, the restore, CONSUME_IMAGE and SAVE_IMAGE (R184 to R189). READ_IMAGE reads the header and, if it is marked, the
body. Its end: ABSENT starts the part, or saves when PFAIL is asserted; REJECTED and FAULTED restore nothing and set
RESTORE_PARTIAL, with RESTORE_REJECTED or MEMORY_FAULT 6; a sound image is restored whole: its checks, then its BARRED terminals,
then its entries as UNWATCHED_LATE; all but ABSENT request CONSUME_IMAGE (R184, R185, R188). A saved check is placed in the lowest
free slot when it passes R186, spelled out, and is else rejected; its tenders in flight or DEFERRED are converted by the table of
R187. CONSUME_IMAGE writes zeros over the marker; at its end, or its fault, START_COMPLETE is produced and READY is entered, or
SAVING when PFAIL is asserted (R179, R184). SAVE_IMAGE writes zeros over the marker, the body, the header; its fault leaves the
image invalid (R189; log entry 16, DEDUCED); the image is laid out as R185 gives. The division into transfers is log entry 15, the
50 ms entries 42 and 43, a transfer that ends well at 50 ms or later entry 47, a count above 255 entry 4, codes and flag bytes of
records that name nothing entries 25, 50, 51, 52 and 56, values that R186 does not check entries 58, 61 and 63, the evaluation
after each conversion entry 24 and its place behind the exception entry 60, the slots that count as named entry 30, the order of
the checks, terminals and entries in the image entry 33, CONSUME_IMAGE behind the voids of the restore entry 59, a revision raised
once for each conversion entry 65. -/
def Obligations.TheImageIsRestoredAndSaved : Prop :=
  (∀ (s : State) (ops : List MemoryOp), s.control.startup = .restoring → s.port.queue = .readImage :: ops →
    s.journal.eraseAgain = false →
    let header := s.memory.readAll 0x020000 32
    let marked := header.take 4 = [0x52, 0x50, 0x49, 0x4D] ∧ fieldAt header 4 2 = 1
    let length := fieldAt header 14 4
    let body := s.memory.readAll 0x020020 length
    let sound := fieldAt header 10 1 ≤ 160 ∧ fieldAt header 11 1 ≤ 96 ∧ fieldAt header 12 1 ≤ 48 ∧ length ≤ 262112 ∧
      fieldAt header 18 2 = (crc16 (header.take 18 ++ body)).toNat
    let last := (min length 262112 + 255) / 256
    let ends : ImageStatus → Bool → Part := fun status damaged => { s with
      control := { s.control with imageStatus := status, restorePartial := s.control.restorePartial || damaged }
      port := (s.portAfter ops).request s.now .consumeImage }
    (¬marked → s.port.transfersDone = 0 → s.pfail = false → s.control.unknowns < 256 →
      exec (.memoryTransferEnd false) s = .next (s.become (Part.started { s with
        control := { s.control with imageStatus := .absent }, port := s.portAfter ops }))) ∧
    (¬marked → s.port.transfersDone = 0 → s.pfail = true → s.control.unknowns < 256 →
      exec (.memoryTransferEnd false) s = .next (s.become
        { Part.started { s with control := { s.control with imageStatus := .absent } } with
          control := { s.control with imageStatus := .absent, startup := .saving }
          port := (s.portAfter ops).request s.now .saveImage })) ∧
    (marked → s.port.transfersDone < last → exec (.memoryTransferEnd false) s = .next { s with port := s.portNext }) ∧
    (marked → s.port.transfersDone = last →
      (¬sound → exec (.memoryTransferEnd false) s = .next (s.become ((ends .rejected true).raise (bareException 9 0)))) ∧
      (∀ (terminals : List (BitVec 16)) (entries : List (List Byte)), sound → fieldAt header 10 1 = 0 →
        terminals.length = fieldAt header 11 1 → entries.length = fieldAt header 12 1 → (∀ r ∈ entries, r.length = 24) →
        body = (terminals.map fun n => leBytes 2 n.toNat).flatten ++ entries.flatten →
        let barred := terminals.foldl (fun (p : Part) n => if 1 ≤ n.toNat ∧ n.toNat ≤ 96 then
          p.setTerminal n.toNat { p.terminal n.toNat with state := .barred } else p) (ends .sound false)
        let late := (entries.filter fun r => decide (fieldAt r 0 1 ≤ 1)).map fun r => { bareException 8
            (if fieldAt r 0 1 = 0 then fieldAt r 12 1 else 256 + fieldAt r 19 1) with
          check := fieldAt r 1 2, table := fieldAt r 3 2, terminal := fieldAt r 5 2, tender := fieldAt r 7 1
          amount := fieldAt r 8 4, code := if fieldAt r 0 1 = 0 then none else some ((r.drop 13).take 6) }
        exec (.memoryTransferEnd false) s = .next (s.become (late.foldl Part.raise barred))) ∧
      (∀ image, s.memory.readImage = .sound image → exec (.memoryTransferEnd false) s = .next (s.become
        (let p := Part.restore { ends .sound false with port := s.portAfter ops } image
         p.setPort (p.port.request s.now .consumeImage)))) ∧
      (s.memory.readImage = .rejected → exec (.memoryTransferEnd false) s = .next (s.become
        ((ends .rejected true).raise (bareException 9 0))))) ∧
    (50 ≤ (s.now - s.port.transferStart).toNat →
      exec .operationLimit s = .next (s.become ((ends .faulted true).raise (bareException 6 6))))) ∧
  (∀ (p : Part) (clock : Time) (named : List Nat) (x : SavedCheck) (rest : List SavedCheck),
    (p.accepts x clock = none → p.restoreChecks clock named (x :: rest) =
      ({ p with control := { p.control with restorePartial := true, rejected := p.control.rejected + 1 } }.raise
        { bareException 9 0 with check := fieldAt x.record 0 2, table := fieldAt x.record 2 2, amount := fieldAt x.record 144 4 }
        ).restoreChecks clock named rest) ∧
    (∀ slot c, p.accepts x clock = some c → firstFree p.checks = some slot → p.restoreChecks clock named (x :: rest) =
      (let q := ({ p.setCheck slot (some c) with control := { p.control with restored := p.control.restored + 1 } }).convertTenders
        slot c named c.tenders
       q.1.restoreChecks clock q.2 rest)) ∧
    (∀ c, x.read clock = some c → (p.accepts x clock = some c ↔
      let accepted := fun k : Nat => c.tenders.filter fun t => decide (t.share = k) && t.state.accepted
      let anchored := fieldAt x.record 6 1 = 1
      (within 1 65535 c.number = true ∧ p.findCheck c.number = none) ∧
      (within 1 999 c.table = true ∧ within 1 40 c.covers = true ∧ c.lines.length ≤ 200 ∧
        c.lines.map (fun l => l.number) = List.range' 1 c.lines.length ∧ within 1 16 c.plan.count = true ∧
        c.tenders.length ≤ 24 ∧ c.tenders.map (fun t => t.id) = List.range' 1 c.tenders.length ∧
        ∀ t ∈ c.tenders, within 1 16 t.share = true ∧
          (t.state.accepted = true ∨ t.state.inFlight = true ∨ t.state = .unknown → t.share ≤ c.plan.count)) ∧
      (firstFree p.checks ≠ none ∧ p.linesInUse + c.lines.length ≤ 3072 ∧ p.tendersInUse + c.tenders.length ≤ 768) ∧
      (negativeBase c.lines = false ∧ workTotals p.venue c.covers c.lines = c.totals) ∧
      (c.plan.kind = .fixed → ((List.range' 1 c.plan.count).map fun k => (c.share k).due).sum = c.totals.total ∧
        ∀ k, 1 ≤ k → k ≤ c.plan.count → (c.share k).preTax ≤ (c.share k).due) ∧
      (c.plan.kind ≠ .fixed → recompute p.venue c.plan c.totals c.lines = .ok ((List.range' 1 c.plan.count).map fun k =>
        { due := (c.share k).due, preTax := (c.share k).preTax, portions := (c.share k).portions })) ∧
      (∀ k, 1 ≤ k → k ≤ c.plan.count → (c.share k).applied = ((accepted k).map fun t => t.amount).sum ∧
        (c.share k).tips = ((accepted k).map fun t => t.payment.tip).sum ∧
        (c.share k).rounding = ((accepted k).map fun t => t.payment.rounding).sum ∧
        ((accepted k).filter fun t => decide (t.payment.rounding ≠ 0)).length ≤ 1 ∧ 0 ≤ (c.share k).remaining ∧
        ∀ t ∈ c.tenders, t.share = k → t.state.inFlight = true → (t.amount : Int) ≤ (c.share k).remaining) ∧
      (c.state = .opened ∨ c.state = .presented → ¬anchored ∧ ∀ t ∈ c.tenders, t.state.accepted = false) ∧
      (c.state = .settling ∨ c.state = .settled → anchored ∧ c.plan.kind = .fixed) ∧
      (c.state = .settled → (∀ k, 1 ≤ k → k ≤ c.plan.count → (c.share k).remaining = 0) ∧
        ∀ t ∈ c.tenders, t.state.inFlight = false))) ∧
    (∀ c, x.read clock = some c →
      c.openedAt = BitVec.ofNat 32 (fieldAt x.record 148 4) - clock ∧
      c.presentedAt = (if fieldAt x.record 164 1 % 2 = 1 then some (BitVec.ofNat 32 (fieldAt x.record 152 4) - clock) else none) ∧
      c.anchoredAt = (if fieldAt x.record 164 1 / 2 % 2 = 1 then some (BitVec.ofNat 32 (fieldAt x.record 156 4) - clock) else none) ∧
      c.settledAt = (if fieldAt x.record 164 1 / 4 % 2 = 1 then some (BitVec.ofNat 32 (fieldAt x.record 160 4) - clock) else none) ∧
      c.number = fieldAt x.record 0 2 ∧ c.table = fieldAt x.record 2 2 ∧ c.covers = fieldAt x.record 4 1 ∧
      c.plan.count = fieldAt x.record 8 1 ∧ c.totals.total = fieldAt x.record 144 4 ∧ c.dwell = fieldAt x.record 165 2)) ∧
  (∀ (p : Part) (slot : Nat) (c : Check) (t : Tender) (named : List Nat), p.checkAt slot = some c → c.tender t.id = some t →
    (∀ i, p.claimAt i = none) →
    let hits := fun j : Nat => ∃ z, p.journal.slotAt j = some z ∧ z.state = .pending ∧ z.contents.check = c.number ∧
      z.contents.tender = t.id ∧ j ∉ named
    let becomes := fun state : TenderState => { c with
      tenders := c.tenders.map fun y : Tender => if y.id = t.id then { y with state := state } else y }
    let lost : Check → Option Nat → Part := fun d j =>
      (({ p.setCheck slot (some d) with control := { p.control with unknowns := p.control.unknowns + 1 } }).raise
        { bareException 7 0 with check := c.number, table := c.table, terminal := t.terminal, tender := t.id
                                 amount := t.amount + t.payment.tip
                                 sequence := (j.bind p.journal.slotAt).map fun z : Slot => z.sequence }).evaluate slot
    (t.state = .authorizing → p.convertTender slot c named t = (lost (becomes .unknown) none, named)) ∧
    (∀ j, t.state = .deferring j .none →
      (hits j → p.convertTender slot c named t = ((p.setCheck slot (some (c.entered t (.deferred j) p.now))).evaluate slot, j :: named)) ∧
      (¬hits j → p.convertTender slot c named t = (lost (becomes .unknown) (some j), named))) ∧
    (∀ j code, t.state = .deferring j (.confirmed code) →
      let q := (p.setCheck slot (some (c.entered t (.approved code) p.now))).evaluate slot
      (hits j → p.convertTender slot c named t = (q.voidPending j, named)) ∧ (¬hits j → p.convertTender slot c named t = (q, named))) ∧
    (∀ j reason, t.state = .deferring j (.declined reason) →
      let q := p.setCheck slot (some (becomes (.declined reason)))
      (hits j → p.convertTender slot c named t = ((q.voidPending j).evaluate slot, named)) ∧
      (¬hits j → p.convertTender slot c named t = (q.evaluate slot, named))) ∧
    (∀ j, t.state = .deferred j →
      (hits j → p.convertTender slot c named t = (p, j :: named)) ∧
      (¬hits j → p.convertTender slot c named t =
        (lost ((becomes .unknown).setShare t.share { c.share t.share with
          applied := (c.share t.share).applied - t.amount
          tips := (c.share t.share).tips - t.payment.tip
          rounding := (c.share t.share).rounding - t.payment.rounding
          revision := (c.share t.share).revision + 1 }) (some j), named))) ∧
    (t.state.inFlight = false → (∀ j, t.state ≠ .deferred j) → p.convertTender slot c named t = (p, named))) ∧
  (∀ (s : State) (ops : List MemoryOp), s.control.startup = .restoring → s.port.queue = .consumeImage :: ops →
    s.journal.eraseAgain = false → s.control.unknowns < 256 →
    let memory := s.memory.writeAll 0x020000 [0, 0, 0, 0]
    (s.pfail = false → exec (.memoryTransferEnd false) s = .next (s.become
      (Part.started { s with memory := memory, port := s.portAfter ops }))) ∧
    (s.pfail = true → exec (.memoryTransferEnd false) s = .next (s.become
      { Part.started { s with memory := memory } with
        control := { s.control with startup := .saving }, port := (s.portAfter ops).request s.now .saveImage })) ∧
    (∀ i, i = Instr.memoryTransferEnd true ∨ i = .operationLimit ∧ 50 ≤ (s.now - s.port.transferStart).toNat → s.pfail = false →
      ∃ torn n, exec i s = .next (s.become (Part.started
          (Part.raise { s with memory := torn, openBytes := n, port := s.portAfter ops } (bareException 6 8)))) ∧
        ∀ a, a < 0x020000 ∨ 0x020004 ≤ a → torn.read a = s.memory.read a)) ∧
  (∀ (s : State) (ops : List MemoryOp) (image : List Byte) (k : Nat), s.control.startup = .saving →
    s.port.queue = .saveImage :: ops → s.port.snapshot = some image → s.port.transfersDone = k → s.journal.eraseAgain = false →
    let last := (image.length - 32 + 255) / 256 + 1
    let wrote := fun (address : Nat) (bytes : List Byte) (port : Port) =>
      exec (.memoryTransferEnd false) s = .next { s with memory := s.memory.writeAll address bytes, port := port }
    (k = 0 → wrote 0x020000 [0, 0, 0, 0] s.portNext) ∧
    (1 ≤ k → k < last → wrote (0x020020 + 256 * (k - 1)) ((image.drop (32 + 256 * (k - 1))).take 256) s.portNext) ∧
    (k = last → wrote 0x020000 (image.take 32) (s.portAfter ops)) ∧
    (∀ i, i = Instr.memoryTransferEnd true ∨ i = .operationLimit ∧ 50 ≤ (s.now - s.port.transferStart).toNat → 32 ≤ image.length →
      ∃ torn n, exec i s = .next (s.become
          (Part.raise { s with memory := torn, openBytes := n, port := s.portAfter ops } (bareException 6 7))) ∧
        torn.readAll 0x020000 4 = [0, 0, 0, 0] ∧
        ∀ a, a < 0x020000 ∨ 0x020000 + image.length ≤ a → torn.read a = s.memory.read a)) ∧
  (∀ p : Part,
    let barred := (List.range' 1 96).filter fun n => decide ((p.terminal n).state = .barred)
    let entries := p.entries.toList.filterMap fun e => e.use.bind fun x =>
      let report := leBytes 2 x.report.check ++ leBytes 2 x.report.table ++ leBytes 2 x.report.terminal
        ++ leBytes 1 x.report.tender ++ leBytes 4 x.amount
      match x.kind, x.state with
      | .live _ _, .watch => some (leBytes 1 0 ++ report
          ++ leBytes 1 (match p.tenderOf x with | some (_, _, t) => t.state.code | none => 255) ++ [0, 0, 0, 0, 0, 0, 0, 0, 0, 0, 0])
      | .reversal code source sequence, _ => some (leBytes 1 1 ++ report ++ leBytes 1 255 ++ code
          ++ leBytes 1 (match source with | .authorization => 0 | .submission => 1) ++ leBytes 4 sequence.toNat)
      | _, _ => none
    let checks := (inUse p.checks).map fun x => x.2
    let record : Check → List Byte := fun c =>
      leBytes 2 c.number ++ leBytes 2 c.table ++ leBytes 1 c.covers
        ++ leBytes 1 (match c.state with | .opened => 0 | .presented => 1 | .settling => 2 | .settled => 3) ++ [flagByte c.anchored]
        ++ leBytes 1 (match c.plan.kind with | .none => 0 | .even => 1 | .byItem => 2 | .amount => 3 | .fixed => 4)
        ++ leBytes 1 c.plan.count ++ ((List.range 15).map fun i => leBytes 4 (c.plan.given.getD i 0)).flatten
        ++ leBytes 1 c.lines.length ++ leBytes 1 c.tenders.length ++ leBytes 1 c.flight
        ++ (c.totals.bases.toList.map (leBytes 4)).flatten ++ leBytes 4 c.totals.itemNet
        ++ (c.totals.taxes.toList.map (leBytes 4)).flatten ++ leBytes 4 c.totals.service ++ leBytes 4 c.totals.total
        ++ timeBytes c.openedAt ++ timeBytes (c.presentedAt.getD 0) ++ timeBytes (c.anchoredAt.getD 0)
        ++ timeBytes (c.settledAt.getD 0) ++ leBytes 1 (c.presentedAt.isSome.toNat + 2 * c.anchoredAt.isSome.toNat
          + 4 * c.settledAt.isSome.toNat) ++ leBytes 2 c.dwell ++ [flagByte c.alerted]
    let share : Check → Nat → List Byte := fun c k =>
      leBytes 1 k ++ leBytes 4 (c.share k).due ++ leBytes 4 (c.share k).preTax ++ leBytes 4 (c.share k).applied
        ++ leBytes 4 (c.share k).tips ++ leSigned 2 (c.share k).rounding ++ leBytes 2 (c.share k).revision.toNat
        ++ (match (c.share k).portions with
          | some v => [1] ++ (v.toList.map (leBytes 4)).flatten
          | none => List.replicate 33 0)
    let tender : Tender → List Byte := fun t =>
      leBytes 1 t.id ++ leBytes 1 t.share ++ leBytes 1 t.payment.code ++ leBytes 1 t.state.code ++ leBytes 2 t.terminal
        ++ leBytes 4 t.amount ++ leBytes 4 t.payment.tip ++ leBytes 4 t.payment.tendered ++ leBytes 4 t.payment.change
        ++ leSigned 2 t.payment.rounding
        ++ (match t.state with | .approved code | .deferring _ (.confirmed code) => code | _ => [0, 0, 0, 0, 0, 0])
        ++ leBytes 1 (match t.state with | .declined reason | .deferring _ (.declined reason) => reason | _ => 0)
        ++ leBytes 1 (match t.state with | .deferring _ (.confirmed _) => 1 | .deferring _ (.declined _) => 2 | _ => 0)
        ++ leBytes 2 (match t.state with | .deferring j _ | .deferred j => j | _ => 0xFFFF) ++ leBytes 2 t.payment.suffix
    let body := (checks.map fun c => record c ++ (c.lines.map fun l => l.bytes).flatten
        ++ ((List.range' 1 c.plan.count).map (share c)).flatten ++ (c.tenders.map tender).flatten).flatten
      ++ (barred.map (leBytes 2)).flatten ++ entries.flatten
    let head := [0x52, 0x50, 0x49, 0x4D, 1, 0] ++ timeBytes p.now ++ leBytes 1 checks.length ++ leBytes 1 barred.length
      ++ leBytes 1 entries.length ++ [0] ++ leBytes 4 body.length
    p.image = head ++ leBytes 2 (crc16 (head ++ body)).toNat ++ List.replicate 12 0 ++ body)

/-! ### Requests from the terminals (02 to 07)

In these statements `s.terminalReady t kind f` says that the request `f` stands ready at the head of terminal link `t` and
that the Roster lets it pass; `s.welcomed t f` is the part once it has passed; `p.answered l f body` is `p` with the request
gone and the reply queued. -/

/-- LOOKUP by check number reports the check, the WHOLE claim's holder and every share of the list, with the terminal whose claim
covers it (R50, R93; under a WHOLE claim its holder: log entry 11, DEDUCED), and renews the requester's leases; an unknown number
is refused NO_CHECK (R50, R97). LOOKUP by table reports the open checks at the table in ascending number, up to 16 of them, and
refuses a table out of range and one with no check (R51). VIEW_SHARE reports one share of the list whole, with the terminal whose
claim covers it and the number of its accepted tenders, and renews the requester's leases; a share outside the list is refused
BAD_FIELD, and a number that names no check NO_CHECK (R61, R97). -/
def Obligations.LookupsReportChecksAndShares : Prop :=
  (∀ (s : State) (t : Tl) (f : Frame), s.terminalReady t 0x10 f = true → f.body.length = 4 →
      let n := fieldAt f.body 0 2
      let table := fieldAt f.body 2 2
      let found := s.checksAtTable table
      (∀ slot c, n ≠ 0 → s.findCheck n = some (slot, c) →
        exec (.lookup t) s = .next (s.become (((s.welcomed t f).renewLeases f.sender n).answered (.tl t) f
          ([0] ++ leBytes 2 n ++ leBytes 2 c.table ++ leBytes 1 c.covers ++ leBytes 1 c.state.code ++ [flagByte c.anchored]
            ++ leBytes 1 c.plan.kind.code ++ leBytes 1 c.plan.count ++ leBytes 4 c.totals.total ++ leBytes 2 (s.wholeHolder n)
            ++ ((List.range' 1 c.plan.count).map fun k =>
                leBytes 1 k ++ leBytes 4 (c.share k).due ++ leSigned 4 (c.share k).remaining ++ leBytes 1 (c.share k).state.code
                  ++ leBytes 2 (c.share k).revision.toNat ++ leBytes 2 (s.holderOf n k)).flatten)))) ∧
      (n ≠ 0 → s.findCheck n = none →
        exec (.lookup t) s = .next (s.become ((s.welcomed t f).answered (.tl t) f [0x20]))) ∧
      (n = 0 → within 1 999 table = true → found ≠ [] →
        exec (.lookupByTable t) s = .next (s.become ((s.welcomed t f).answered (.tl t) f
          ([0] ++ leBytes 2 table ++ leBytes 1 found.length ++ ((found.take 16).map fun c =>
            leBytes 2 c.number ++ leBytes 1 c.state.code ++ leBytes 4 c.totals.total).flatten)))) ∧
      (n = 0 → within 1 999 table = false →
        exec (.lookupByTable t) s = .next (s.become ((s.welcomed t f).answered (.tl t) f [0x02]))) ∧
      (n = 0 → within 1 999 table = true → found = [] →
        exec (.lookupByTable t) s = .next (s.become ((s.welcomed t f).answered (.tl t) f [0x20]))) ∧
      (∀ c, c ∈ found ↔ c.table = table ∧ ∃ i, s.checkAt i = some c) ∧ found.Pairwise (fun a b => a.number ≤ b.number)) ∧
  (∀ (s : State) (t : Tl) (f : Frame), s.terminalReady t 0x14 f = true → f.body.length = 3 →
      let n := fieldAt f.body 0 2
      let k := fieldAt f.body 2 1
      (k = 0 ∨ 16 < k → exec (.viewShare t) s = .next (s.become ((s.welcomed t f).answered (.tl t) f [0x02]))) ∧
      (1 ≤ k → k ≤ 16 → s.findCheck n = none →
        exec (.viewShare t) s = .next (s.become ((s.welcomed t f).answered (.tl t) f [0x20]))) ∧
      (∀ slot c, 1 ≤ k → k ≤ 16 → s.findCheck n = some (slot, c) → c.plan.count < k →
        exec (.viewShare t) s = .next (s.become ((s.welcomed t f).answered (.tl t) f [0x02]))) ∧
      (∀ slot c, 1 ≤ k → k ≤ 16 → s.findCheck n = some (slot, c) → k ≤ c.plan.count →
        let x := c.share k
        exec (.viewShare t) s = .next (s.become (((s.welcomed t f).renewLeases f.sender n).answered (.tl t) f
          ([0] ++ leBytes 1 k ++ leBytes 1 x.state.code ++ leBytes 4 x.due ++ leBytes 4 x.preTax ++ leBytes 4 x.applied
            ++ leBytes 4 x.tips ++ leSigned 2 x.rounding ++ leSigned 4 x.remaining ++ leBytes 2 x.revision.toNat
            ++ leBytes 2 (s.holderOf n k) ++ leBytes 1 c.plan.kind.code ++ [flagByte x.portions.isSome]
            ++ ((List.range 8).map fun i => leBytes 4 (((x.portions.bind fun v => v[i]?)).getD 0)).flatten
            ++ leBytes 1 (c.tenders.countP fun y => y.share == k && y.state.accepted))))))

/-- TENDER_STATUS naming a check reports the requester's own tenders from an id on, up to 10, with their count; with check
number 0 it reports the requester's tender in flight, or zeros, and whether a held reply waits; a first id out of range and an
unknown check are refused (R123). The tip reported for a cash tender is log entry 46 (DESIGN CHOICE). -/
def Obligations.TenderStatusReportsTheRequestersTenders : Prop :=
  ∀ (s : State) (t : Tl) (f : Frame), s.terminalReady t 0x1A f = true → f.body.length = 3 →
    let n := fieldAt f.body 0 2
    let first := fieldAt f.body 2 1
    let waits := flagByte (s.terminal f.sender).held.isSome
    (∀ slot c, n ≠ 0 → 1 ≤ first → first ≤ 24 → s.findCheck n = some (slot, c) →
      let own := c.tenders.filter fun x => decide (x.terminal = f.sender ∧ first ≤ x.id)
      exec (.tenderStatus t) s = .next (s.become (((s.welcomed t f).renewLeases f.sender n).answered (.tl t) f
        ([0] ++ leBytes 2 n ++ leBytes 1 own.length ++ ((own.take 10).map fun x =>
          leBytes 1 x.id ++ leBytes 1 x.share ++ leBytes 1 x.payment.code ++ leBytes 1 x.state.code ++ leBytes 4 x.amount
            ++ leBytes 4 x.payment.tip ++ x.state.shownCode ++ leBytes 1 x.state.shownReason
            ++ leBytes 2 (min x.payment.change 65535)).flatten)))) ∧
    (∀ i c x, n = 0 → s.checkAt i = some c → x ∈ c.tenders → x.terminal = f.sender → x.state.inFlight = true →
      (∀ j d y, s.checkAt j = some d → y ∈ d.tenders → y.terminal = f.sender → y.state.inFlight = true →
        d.number = c.number ∧ y.id = x.id ∧ y.state.code = x.state.code) →
      exec (.tenderStatusFlight t) s = .next (s.become ((s.welcomed t f).answered (.tl t) f
        ([0] ++ leBytes 2 c.number ++ leBytes 1 x.id ++ leBytes 1 x.state.code ++ [waits])))) ∧
    (n = 0 → (∀ j d y, s.checkAt j = some d → y ∈ d.tenders → y.terminal = f.sender → y.state.inFlight = false) →
      exec (.tenderStatusFlight t) s = .next (s.become ((s.welcomed t f).answered (.tl t) f [0, 0, 0, 0, 0, waits]))) ∧
    (n ≠ 0 → first = 0 ∨ 24 < first →
      exec (.tenderStatus t) s = .next (s.become ((s.welcomed t f).answered (.tl t) f [0x02]))) ∧
    (n ≠ 0 → 1 ≤ first → first ≤ 24 → s.findCheck n = none →
      exec (.tenderStatus t) s = .next (s.become ((s.welcomed t f).answered (.tl t) f [0x20])))

/-- CLAIM, to a terminal with no claim on the check: with no conflict it takes the lowest free record (that it is the lowest is
log entry 21, DESIGN CHOICE), ACTIVE, with a lease armed, and clears the check's dwell; against a claim of another terminal that
covers a share of the scope asked for it is refused HELD, naming the holder of the conflicting claim with the lowest scope (R93,
R94, R96, R105). A CLAIM by a terminal that has claims on the check already: one for a scope it holds ACTIVE renews that lease and
changes no record; one for WHOLE frees its share claims and takes a WHOLE claim in the lowest record then free (R95, R96; log
entry 21). In general, with any number of ACTIVE claims of the terminal on the check, none of the scope asked for: a CLAIM for
WHOLE frees them all, one for a share frees a WHOLE claim; the claim asked for takes the lowest record then free, and the leases
of the claims kept are renewed after it, in the order of their records (log entry 21, DESIGN CHOICE). A CLAIM for a scope that the
terminal holds PINNED leaves that claim as it is and renews its ACTIVE claims on the check. One that would free a PINNED claim is
refused BUSY, one that would leave the terminal with more than 4 claims CLAIM_LIMIT, and one that frees none while no record is
free CLAIMS_FULL (R94 to R96). -/
def Obligations.ClaimsAreGrantedHeldAndReplaced : Prop :=
  (∀ (s : State) (t : Tl) (f : Frame) (slot : Nat) (c : Check), s.terminalReady t 0x11 f = true → f.body.length = 3 →
      s.findCheck (fieldAt f.body 0 2) = some (slot, c) → fieldAt f.body 2 1 ≤ c.plan.count →
      let code := fieldAt f.body 2 1
      let asked : Claim :=
        { terminal := f.sender, check := c.number, scope := if code = 0 then .whole else .share code, state := .active,
          grantedAt := s.now }
      let p := s.welcomed t f
      let e := p.terminal f.sender
      (∀ i, firstFree s.claims = some i → e.claimCount < 4 →
        (∀ j x, s.claimAt j = some x → x.check = c.number → x.terminal ≠ f.sender ∧ asked.apart x = true) →
        exec (.claim t) s = .next (s.become (Part.answered
          ((((p.setClaim i (some asked)).setTerminal f.sender { e with claimCount := e.claimCount + 1 }).rearm (.claimLease i)
            (seconds s.venue.claimLease)).setCheck slot (some { c with dwell := 0, alerted := false }))
          (.tl t) f ([0] ++ leBytes 1 code ++ [0] ++ timeBytes s.now ++ timeBytes (s.now + seconds s.venue.claimLease) ++ [0]
            ++ leBytes 1 (e.claimCount + 1))))) ∧
      (∀ i x, s.claimAt i = some x → x.check = c.number → x.terminal ≠ f.sender → asked.apart x = false →
        (∀ j y, s.claimAt j = some y → j ≠ i → y.check = c.number → y.terminal ≠ f.sender → asked.apart y = false →
          x.scope.code < y.scope.code) →
        exec (.claim t) s = .next (s.become (p.answered (.tl t) f ([0x40] ++ leBytes 2 x.terminal))))) ∧
  (∀ (s : State) (t : Tl) (f : Frame) (slot : Nat) (c : Check) (i : Nat) (x : Claim), s.terminalReady t 0x11 f = true →
      f.body.length = 3 → s.findCheck (fieldAt f.body 0 2) = some (slot, c) → fieldAt f.body 2 1 ≤ c.plan.count →
      s.claimAt i = some x → x.terminal = f.sender → x.check = c.number → x.state = .active →
      (∀ j y, s.claimAt j = some y → j ≠ i → y.check ≠ c.number) →
      let code := fieldAt f.body 2 1
      let p := s.welcomed t f
      let e := p.terminal f.sender
      let lease := seconds s.venue.claimLease
      (x.scope = (if code = 0 then .whole else .share code) → e.claimCount ≤ 4 →
        exec (.claim t) s = .next (s.become (Part.answered
          ((p.rearm (.claimLease i) lease).setCheck slot (some { c with dwell := 0, alerted := false }))
          (.tl t) f ([0] ++ leBytes 1 code ++ [0] ++ timeBytes x.grantedAt ++ timeBytes (s.now + lease) ++ [0]
            ++ leBytes 1 e.claimCount)))) ∧
      (∀ k j, x.scope = .share k → code = 0 → 1 ≤ e.claimCount → e.claimCount ≤ 4 →
        firstFree (s.claims.setIfInBounds i none) = some j →
        exec (.claim t) s = .next (s.become (Part.answered
          (((((p.cancel (.claimLease i)).setClaim i none).setClaim j (some { x with scope := .whole, grantedAt := s.now })).rearm
            (.claimLease j) lease).setCheck slot (some { c with dwell := 0, alerted := false }))
          (.tl t) f ([0, 0, 0] ++ timeBytes s.now ++ timeBytes (s.now + lease) ++ [1] ++ leBytes 1 e.claimCount))))) ∧
  (∀ (s : State) (t : Tl) (f : Frame) (slot : Nat) (c : Check) (j : Nat), s.terminalReady t 0x11 f = true → f.body.length = 3 →
      s.findCheck (fieldAt f.body 0 2) = some (slot, c) → fieldAt f.body 2 1 ≤ c.plan.count →
      let code := fieldAt f.body 2 1
      let asked : Claim :=
        { terminal := f.sender, check := c.number, scope := if code = 0 then .whole else .share code, state := .active,
          grantedAt := s.now }
      let own := (inUse s.claims).filter fun x => decide (x.2.check = c.number) && decide (x.2.terminal = f.sender)
      let freed := own.filter fun x => decide (code = 0 ∨ x.2.scope = .whole)
      let kept := own.filter fun x => decide (code ≠ 0 ∧ x.2.scope ≠ .whole)
      let p := s.welcomed t f
      let q := freed.foldl (fun (q : Part) x => (q.cancel (.claimLease x.1)).setClaim x.1 none) p
      let n := (p.terminal f.sender).claimCount - freed.length + 1
      let lease := seconds s.venue.claimLease
      (∀ i x, s.claimAt i = some x → x.check = c.number → x.terminal ≠ f.sender → asked.apart x = true) →
      (∀ x ∈ own, x.2.state = .active ∧ x.2.scope ≠ asked.scope) → freed.length ≤ (p.terminal f.sender).claimCount → n ≤ 4 →
      firstFree q.claims = some j →
      exec (.claim t) s = .next (s.become (Part.answered
        ((kept.foldl (fun (q : Part) x => q.rearm (.claimLease x.1) lease)
          (((q.setClaim j (some asked)).setTerminal f.sender { p.terminal f.sender with claimCount := n }).rearm (.claimLease j)
            lease)).setCheck slot (some { c with dwell := 0, alerted := false }))
        (.tl t) f ([0] ++ leBytes 1 code ++ [0] ++ timeBytes s.now ++ timeBytes (s.now + lease) ++ leBytes 1 freed.length
          ++ leBytes 1 n)))) ∧
  (∀ (s : State) (t : Tl) (f : Frame) (slot : Nat) (c : Check), s.terminalReady t 0x11 f = true → f.body.length = 3 →
      s.findCheck (fieldAt f.body 0 2) = some (slot, c) → fieldAt f.body 2 1 ≤ c.plan.count →
      let code := fieldAt f.body 2 1
      let asked : Claim :=
        { terminal := f.sender, check := c.number, scope := if code = 0 then .whole else .share code, state := .active,
          grantedAt := s.now }
      let own := (inUse s.claims).filter fun x => decide (x.2.check = c.number) && decide (x.2.terminal = f.sender)
      let freed := own.filter fun x => decide (code = 0 ∨ x.2.scope = .whole)
      let p := s.welcomed t f
      let count := (p.terminal f.sender).claimCount
      let refused := fun code : Byte => exec (.claim t) s = .next (s.become (p.answered (.tl t) f [code]))
      (∀ i x, s.claimAt i = some x → x.check = c.number → x.terminal ≠ f.sender → asked.apart x = true) →
      (∀ i x, (i, x) ∈ own → x.scope = asked.scope → x.state = .pinned → count ≤ 4 →
        (∀ y ∈ own, y.1 ≠ i → y.2.scope ≠ asked.scope) → (∀ d ∈ s.clockUnit.deadlines, d.owner ≠ .claimLease i) →
        let renewed := own.filter fun y => decide (y.1 ≠ i) && decide (y.2.state = .active)
        exec (.claim t) s = .next (s.become (Part.answered
          ((renewed.foldl (fun (q : Part) y => q.rearm (.claimLease y.1) (seconds s.venue.claimLease)) p).setCheck slot
            (some { c with dwell := 0, alerted := false }))
          (.tl t) f ([0] ++ leBytes 1 code ++ [1] ++ timeBytes x.grantedAt ++ [0, 0, 0, 0, 0] ++ leBytes 1 count)))) ∧
      ((∀ x ∈ own, x.2.scope ≠ asked.scope) →
        ((∃ x ∈ freed, x.2.state = .pinned) → refused 0x60) ∧
        ((∀ x ∈ freed, x.2.state = .active) → 4 + freed.length < count + 1 → refused 0x42) ∧
        (freed = [] → count < 4 → firstFree s.claims = none → refused 0x43)))

/-- RELEASE frees the requester's ACTIVE claim of the scope named and lowers its claim count, with no advisory; a claim it
does not hold is refused NOT_CLAIMED, and a PINNED one BUSY (R25, R99). Stated where it holds no other claim on the check. -/
def Obligations.ReleaseFreesTheClaim : Prop :=
  ∀ (s : State) (t : Tl) (f : Frame) (slot : Nat) (c : Check), s.terminalReady t 0x12 f = true → f.body.length = 3 →
    s.findCheck (fieldAt f.body 0 2) = some (slot, c) → fieldAt f.body 2 1 ≤ 16 →
    let code := fieldAt f.body 2 1
    let p := s.welcomed t f
    let e := p.terminal f.sender
    (∀ i x, s.claimAt i = some x → x.terminal = f.sender → x.check = c.number →
      x.scope = (if code = 0 then .whole else .share code) →
      (∀ j y, s.claimAt j = some y → j ≠ i → y.terminal = f.sender → y.check ≠ c.number) →
      (x.state = .active → exec (.release t) s = .next (s.become (Part.answered
        (((p.cancel (.claimLease i)).setClaim i none).setTerminal f.sender { e with claimCount := e.claimCount - 1 })
        (.tl t) f ([0] ++ leBytes 1 (e.claimCount - 1))))) ∧
      (x.state = .pinned → exec (.release t) s = .next (s.become (p.answered (.tl t) f [0x60])))) ∧
    ((∀ j y, s.claimAt j = some y → y.terminal = f.sender → y.check = c.number →
        y.scope ≠ if code = 0 then .whole else .share code) →
      exec (.release t) s = .next (s.become (p.answered (.tl t) f [0x41])))

/-- PRESENT, from a terminal or from the order server: an OPEN check becomes PRESENTED, stamped now; a PRESENTED one keeps
its stamp; an anchored one is refused ANCHORED, and a number that names no check NO_CHECK (R31, R41). -/
def Obligations.PresentStampsTheCheck : Prop :=
  ∀ (s : State) (f : Frame), f.body.length = 2 →
    (s.findCheck (fieldAt f.body 0 2) = none →
      (∀ t, s.terminalReady t 0x13 f = true → exec (.present (.tl t)) s = .next (s.become
        ((s.welcomed t f).answered (.tl t) f [0x20]))) ∧
      (s.orderReady 0x13 2 f = true → exec (.present .ol) s = .next (s.become (s.answered .ol f [0x20])))) ∧
    (∀ slot c, s.findCheck (fieldAt f.body 0 2) = some (slot, c) →
      let d : Check := { c with state := .presented, presentedAt := some s.now }
      (∀ t, s.terminalReady t 0x13 f = true →
        (c.state = .opened → exec (.present (.tl t)) s = .next (s.become
          ((((s.welcomed t f).setCheck slot (some d)).renewLeases f.sender c.number).answered (.tl t) f
            ([0] ++ leBytes 4 c.totals.total ++ timeBytes s.now)))) ∧
        (∀ at_, c.state = .presented → c.presentedAt = some at_ → exec (.present (.tl t)) s = .next (s.become
          (((s.welcomed t f).renewLeases f.sender c.number).answered (.tl t) f
            ([0] ++ leBytes 4 c.totals.total ++ timeBytes at_)))) ∧
        (c.state = .settling ∨ c.state = .settled → exec (.present (.tl t)) s = .next (s.become
          ((s.welcomed t f).answered (.tl t) f [0x32])))) ∧
      (s.orderReady 0x13 2 f = true → (∀ j y, s.claimAt j = some y → y.terminal ≠ 0) →
        (c.state = .opened → exec (.present .ol) s = .next (s.become ((s.setCheck slot (some d)).answered .ol f
          ([0] ++ leBytes 4 c.totals.total ++ timeBytes s.now)))) ∧
        (∀ at_, c.state = .presented → c.presentedAt = some at_ → exec (.present .ol) s = .next (s.become
          (s.answered .ol f ([0] ++ leBytes 4 c.totals.total ++ timeBytes at_)))) ∧
        (c.state = .settling ∨ c.state = .settled →
          exec (.present .ol) s = .next (s.become (s.answered .ol f [0x32])))))

/-- SET_PLAN and ASSIGN_LINE, to the holder of the WHOLE claim on a check under a rule plan with no tender in flight:
the plan, or the line's share set, is stored; every share of the list takes the due, the pre-tax part and the class portions
worked out under it; a revision rises where the share joins the list or its due changes; a record that leaves the list keeps
its revision alone; the requester's leases are renewed (R52, R54, R56 to R60). Both are refused ANCHORED on an
anchored check, and on a restored one that stands under FIXED (R52, R58, R60, R62). -/
def Obligations.PlansSetTheShares : Prop :=
  ∀ (s : State) (t : Tl) (f : Frame) (slot : Nat) (c : Check), s.findCheck (fieldAt f.body 0 2) = some (slot, c) →
    s.holdsWhole f.sender c.number = true →
    let p := s.welcomed t f
    let stored : Plan → List Line → List Figures → Check → Prop := fun plan lines figures d =>
      d = { c with plan := plan, lines := lines, shares := d.shares } ∧
      (∀ (k : Nat) (g : Figures), figures[k]? = some g → k < 16 → d.share (k + 1) = { c.share (k + 1) with
        due := g.due
        preTax := g.preTax
        portions := g.portions
        revision := if c.plan.count ≤ k ∨ (c.share (k + 1)).due ≠ g.due then (c.share (k + 1)).revision + 1
          else (c.share (k + 1)).revision }) ∧
      (∀ k, figures.length ≤ k → k < 16 → d.share (k + 1) = Share.blank (c.share (k + 1)).revision)
    (∀ plan figures, s.terminalReady t 0x15 f = true → f.setPlanLength = true → f.planAsked = some plan →
      c.anchored = false → c.plan.kind ≠ .fixed → c.flight = 0 → (∀ x ∈ c.tenders, x.state = .unknown → x.share ≤ plan.count) →
      recompute s.venue plan c.totals (plan.resetSets c.lines) = .ok figures →
      ∃ d, stored plan (plan.resetSets c.lines) figures d ∧
        exec (.setPlan t) s = .next (s.become (((p.setCheck slot (some d)).renewLeases f.sender c.number).answered (.tl t) f
          ([0] ++ leBytes 4 c.totals.total ++ leBytes 1 plan.kind.code ++ leBytes 1 plan.count
            ++ ((List.range' 1 plan.count).map fun k =>
              leBytes 4 (d.share k).due ++ leBytes 4 (d.share k).preTax ++ leBytes 2 (d.share k).revision.toNat).flatten)))) ∧
    (s.terminalReady t 0x15 f = true → f.setPlanLength = true → f.planAsked ≠ none →
      c.anchored = true ∨ c.plan.kind = .fixed →
      exec (.setPlan t) s = .next (s.become (p.answered (.tl t) f [0x32]))) ∧
    (s.terminalReady t 0x16 f = true → f.body.length = 5 → within 1 200 (fieldAt f.body 2 1) = true → fieldAt f.body 3 2 ≠ 0 →
      c.anchored = true ∨ c.plan.kind = .fixed →
      exec (.assignLine t) s = .next (s.become (p.answered (.tl t) f [0x32]))) ∧
    (∀ figures line, s.terminalReady t 0x16 f = true → f.body.length = 5 → within 1 200 (fieldAt f.body 2 1) = true →
      fieldAt f.body 3 2 ≠ 0 → fieldAt f.body 3 2 < 2 ^ c.plan.count → c.anchored = false → c.flight = 0 →
      c.plan.kind = .byItem → line ∈ c.lines → line.number = fieldAt f.body 2 1 → line.live = true →
      recompute s.venue c.plan c.totals (assignSet c.lines (fieldAt f.body 2 1) (BitVec.ofNat 16 (fieldAt f.body 3 2)))
        = .ok figures →
      ∃ d, stored c.plan (assignSet c.lines (fieldAt f.body 2 1) (BitVec.ofNat 16 (fieldAt f.body 3 2))) figures d ∧
        exec (.assignLine t) s = .next (s.become (((p.setCheck slot (some d)).renewLeases f.sender c.number).answered (.tl t) f
          ([0] ++ leBytes 4 c.totals.total ++ leBytes 1 c.plan.count ++ ((List.range' 1 c.plan.count).map fun k =>
            leBytes 4 (d.share k).due ++ leBytes 2 (d.share k).revision.toNat).flatten))))

/-- The totals are worked out from the LIVE lines and the covers: the base of a class is the sum of its LIVE lines' amounts, a
base below 0 is reported, the item net is the sum of the bases (R70), the tax of a class is its base's at its rate under
EXCLUSIVE, and the part of the base that is tax under INCLUSIVE (R71, R72), the service charge is the item net's at the service
rate, from the threshold of covers on (R73). A recomputation gives one figure for each share of the list, and the dues sum to the
check's total, under every rule plan (R56, R75 to R84). Under NONE the one share owes the total, its pre-tax part the item net
(R75); under EVEN the lowest shares carry the odd units (R76); under EVEN and AMOUNT a pre-tax part is the due's proportion of the
item net, rounded half up, and no greater than the due (R77); the total is the item net, the service charge and, under EXCLUSIVE,
the class taxes (R74). Under BY_ITEM every line's share set holds shares of the list alone. -/
def Obligations.TheDuesSumToTheTotal : Prop :=
  (∀ (v : Venue) (lines : List Line) (covers : Nat),
    let base := fun c : Nat => ((lines.filter fun l => decide (l.live = true ∧ l.cls = c)).map fun l => l.amount).sum
    let halfUp := fun n d : Nat => (2 * n + d) / (2 * d)
    let x := workTotals v covers lines
    (negativeBase lines = true ↔ ∃ c < 8, base c < 0) ∧
    (negativeBase lines = false →
      (∀ (c b : Nat), x.bases[c]? = some b → (b : Int) = base c) ∧ x.itemNet = x.bases.toList.sum ∧
      (∀ (c b rate tax : Nat), x.bases[c]? = some b → v.rates[c]? = some rate → x.taxes[c]? = some tax →
        tax = if v.inclusive then halfUp (b * rate) (100000 + rate) else halfUp (b * rate) 100000) ∧
      x.service = (if v.serviceThreshold = 0 ∨ covers < v.serviceThreshold then 0
        else halfUp (x.itemNet * v.serviceRate) 100000))) ∧
  ∀ (v : Venue) (plan : Plan) (lines : List Line) (covers : Nat) (figures : List Figures),
    negativeBase lines = false → within 1 16 plan.count = true → (plan.kind = .none → plan.count = 1) →
    (plan.kind = .amount → plan.given.length + 1 = plan.count) →
    (plan.kind = .byItem → ∀ l ∈ lines, ∃ set : BitVec 16, l.shareSet = some set ∧ set ≠ 0 ∧ set.toNat < 2 ^ plan.count) →
    let x := workTotals v covers lines
    recompute v plan x lines = .ok figures →
    figures.length = plan.count ∧ (figures.map fun g => g.due).sum = x.total ∧
    x.total = x.itemNet + x.service + (if v.inclusive then 0 else x.taxes.toList.sum) ∧
    (plan.kind = .none → figures = [{ due := x.total, preTax := x.itemNet, portions := none }]) ∧
    (∀ (k : Nat) (g : Figures), figures[k]? = some g → plan.kind = .even →
      g.due = x.total / plan.count + if k < x.total % plan.count then 1 else 0) ∧
    (∀ (k : Nat) (g : Figures), figures[k]? = some g → plan.kind = .amount →
      g.due = if k + 1 < plan.count then plan.given[k]?.getD 0 else x.total - plan.given.sum) ∧
    (∀ g ∈ figures, plan.kind = .even ∨ plan.kind = .amount →
      g.preTax = (if x.total = 0 then 0 else (2 * (g.due * x.itemNet) + x.total) / (2 * x.total)) ∧ g.preTax ≤ g.due)

/-- The arithmetic of money: a quotient is rounded half up (00, "Round half up"); an allocation by largest remainder gives
out the whole amount: to each weight its proportion rounded down, and one unit more to those with the greatest keys, the lower
index first among equal keys (R81); a line's parts sum to its amount over its share set, each the quotient truncated toward zero
and one unit more in the amount's direction for the lowest indices (R79). Under BY_ITEM a class portion is the sum of the share's
parts of the LIVE lines of the class, one below 0 refuses with NEGATIVE_BASE, the pre-tax part is the sum of the eight portions, and
the due adds to it the class taxes allocated over the portions, under EXCLUSIVE, and the service charge allocated over the pre-tax
parts (R56, R80, R82 to R84). A tip is what its form gives
(R86), is held to the share's tip ceiling (R87), and is 0 or more. What PAY_CARD sends to the gateway (R88) is stated in
CardsGoInFlight and TheArbiterGrants. The model's choice: B is the sum of the weights, also where portions do not sum to the base
or item net that R82 and R83 name (log entry 58, DESIGN CHOICE). -/
def Obligations.MoneyIsRoundedAndGivenOutWhole : Prop :=
  ((∀ n d : Nat, 0 < d → roundHalfUp n d = (2 * n + d) / (2 * d)) ∧
    (∀ (amount : Nat) (weights : List Nat),
      let base := weights.sum
      let key := fun w => amount * w % base
      let leftover := amount - (weights.map fun w => amount * w / base).sum
      (allocate amount weights).length = weights.length ∧
      (base = 0 → ∀ x ∈ allocate amount weights, x = 0) ∧
      (0 < base → (allocate amount weights).sum = amount ∧ leftover < weights.length ∧
        ∀ (i w x : Nat), weights[i]? = some w → (allocate amount weights)[i]? = some x →
          let ahead := (List.range weights.length).countP fun j =>
            decide (key w < key (weights.getD j 0) ∨ (key (weights.getD j 0) = key w ∧ j < i))
          x = amount * w / base + (if ahead < leftover then 1 else 0) ∧ (w = 0 → x = 0))) ∧
    (∀ (amount : Int) (set : BitVec 16), set ≠ 0 → ((List.range' 1 16).map (linePart amount set)).sum = amount ∧
      let members := (List.range' 1 16).filter fun k => set.getLsbD (k - 1)
      let q := amount.tdiv members.length
      let r := amount - (members.length : Int) * q
      r.natAbs < members.length ∧
      ∀ k, 1 ≤ k → k ≤ 16 → linePart amount set k =
        if k ∈ members then (if members.countP (fun j => decide (j < k)) < r.natAbs then q + r.sign else q) else 0)) ∧
  (∀ (v : Venue) (plan : Plan) (x : Totals) (lines : List Line), plan.kind = .byItem → within 1 16 plan.count = true →
    let portion := fun (c k : Nat) => ((lines.filter fun l => decide (l.live = true ∧ l.cls = c)).map fun l =>
      linePart l.amount (l.shareSet.getD 0) k).sum
    let portions := fun c : Nat => (List.range' 1 plan.count).map fun k => (portion c k).toNat
    let net := fun k : Nat => ((List.range 8).map fun c => (portion c k).toNat).sum
    ((∃ c < 8, ∃ k, 1 ≤ k ∧ k ≤ plan.count ∧ portion c k < 0) ↔ recompute v plan x lines = .error .negativeBase) ∧
    (∀ figures, recompute v plan x lines = .ok figures → figures.length = plan.count ∧
      ∀ (k : Nat) (g : Figures), figures[k]? = some g →
        (∃ w, g.portions = some w ∧ ∀ (c n : Nat), w[c]? = some n → (n : Int) = portion c (k + 1)) ∧
        g.preTax = net (k + 1) ∧
        g.due = net (k + 1)
          + (if v.inclusive then 0 else ((List.range 8).map fun c => (allocate (x.taxes[c]?.getD 0) (portions c))[k]?.getD 0).sum)
          + (allocate x.service ((List.range' 1 plan.count).map net))[k]?.getD 0)) ∧
  (∀ (v : Venue) (x : Share) (value amount tip : Nat),
      workTip 0 value amount x = value ∧ workTip 1 value amount x = (2 * (amount * value) + 100000) / 200000 ∧
      (0 < x.due → workTip 2 value amount x =
        (2 * ((2 * (amount * x.preTax) + x.due) / (2 * x.due) * value) + 100000) / 200000) ∧
      (x.due = 0 → workTip 2 value amount x = 0) ∧
      (tipWithin v x tip = true ↔ tip = 0 ∨ (x.tips + tip) * 100000 ≤ x.due * v.tipCeiling) ∧
      (x.preTax ≤ x.due → value ≤ 100000 → workTip 2 value amount x ≤ amount))

/-- A cash tender is sorted by what it covers (R89, R90): what covers the remaining amount rounded to the cash unit is final
and gives change; else what covers the remaining amount is exact; else it is partial. In each case nothing is lost: what is
tendered is what is applied and the change; and the rounding is at most half a unit. The tender records the figures; entered
into its share, a final or exact one leaves nothing owed and a partial one what it did not cover. A share that carries a cash
rounding is taken at a unit of 1, and is not rounded again. -/
def Obligations.CashIsSorted : Prop :=
  (∀ remaining unit tendered : Nat, 0 < unit →
    let r := remaining % unit
    let rounded := remaining - r + (if unit ≤ 2 * r then unit else 0)
    let x := sortCash remaining unit tendered
    (rounded ≤ tendered →
      x = { applied := rounded, rounding := (rounded : Int) - remaining, change := tendered - rounded }) ∧
    (remaining ≤ tendered → tendered < rounded →
      x = { applied := remaining, rounding := 0, change := tendered - remaining }) ∧
    (tendered < remaining → tendered < rounded → x = { applied := tendered, rounding := 0, change := 0 }) ∧
    x.applied + x.change = tendered ∧ 2 * x.rounding.natAbs ≤ unit ∧ rounded % unit = 0) ∧
  (∀ (v : Venue) (x : Share) (c : Check) (f : Frame), 0 < v.cashUnit → 0 < x.remaining →
    let tendered := fieldAt f.body 5 4
    let owed := x.remaining.toNat
    let split := sortCash owed (unitFor v x) tendered
    let y := cashTender f c split
    y.payment = .cash tendered split.change split.rounding ∧ y.amount = split.applied ∧ y.state.accepted = true ∧
    (x.enter y).remaining =
      (if owed ≤ tendered ∨ roundedRemaining owed (unitFor v x) ≤ tendered then 0 else x.remaining - tendered) ∧
    (x.rounding ≠ 0 → split = { applied := min tendered owed, rounding := 0, change := tendered - owed }))

/-- The settlement evaluation (R43): a SETTLING check whose shares are all PAID and that has no tender in flight becomes
SETTLED, stamped now, and CHECK_SETTLED is produced; a SETTLED check with a share that is not PAID becomes SETTLING again,
its stamp absent; any other check is not changed. -/
def Obligations.SettlementIsEvaluated : Prop :=
  ∀ (p : Part) (slot : Nat) (c : Check), p.checkAt slot = some c →
    (c.state = .settling → (∀ k, 1 ≤ k → k ≤ c.plan.count → (c.share k).remaining = 0) →
      (∀ x ∈ c.tenders, x.state.inFlight = false) →
      p.evaluate slot = (p.setCheck slot (some { c with state := .settled, settledAt := some p.now })).notice 1
        (leBytes 2 c.number ++ leBytes 2 c.table ++ leBytes 4 c.totals.total
          ++ leBytes 1 (c.tenders.countP fun x => x.state.accepted))) ∧
    (c.state = .settled → (∃ k, 1 ≤ k ∧ k ≤ c.plan.count ∧ (c.share k).remaining ≠ 0) →
      p.evaluate slot = p.setCheck slot (some { c with state := .settling, settledAt := none })) ∧
    (c.state = .opened ∨ c.state = .presented ∨
      (c.state = .settling ∧ ((∃ k, 1 ≤ k ∧ k ≤ c.plan.count ∧ (c.share k).remaining ≠ 0) ∨
        ∃ x ∈ c.tenders, x.state.inFlight = true)) ∨
      (c.state = .settled ∧ ∀ k, 1 ≤ k → k ≤ c.plan.count → (c.share k).remaining = 0) →
      p.evaluate slot = p)

/-- PAY_CASH: the tender is accepted at once. It is appended with what R90 makes of the cash; a check that is not anchored is
anchored, its plan FIXED, its share sets and class portions gone; the money enters the share, whose revision rises; the
evaluation runs; the requester's leases are renewed; the reply gives the figures (R42, R62, R63, R108, R119, R120). Stated
where no other terminal's claim covers the share, so that no SHARE_CHANGED is due. -/
def Obligations.CashIsAcceptedAtOnce : Prop :=
  ∀ (s : State) (t : Tl) (f : Frame) (slot : Nat) (c : Check), s.terminalReady t 0x18 f = true → f.body.length = 9 →
    (s.terminal f.sender).inFlight = false → (s.terminal f.sender).held = none →
    s.findCheck (fieldAt f.body 0 2) = some (slot, c) →
    let k := fieldAt f.body 2 1
    let tendered := fieldAt f.body 5 4
    let x := c.share k
    s.holdsCover f.sender c.number k = true → 1 ≤ k → k ≤ c.plan.count → k ≤ 16 → fieldAt f.body 3 2 = x.revision.toNat →
    0 < x.remaining → 1 ≤ tendered → tendered ≤ 99999999 → c.tenders.length < 24 → s.tendersInUse < 768 →
    (∀ x ∈ c.tenders, x.id ≤ c.tenders.length) →
    (∀ j y, s.claimAt j = some y → y.check = c.number → y.terminal ≠ f.sender → y.scope.covers k = false) →
    let split := sortCash x.remaining.toNat (if x.rounding = 0 then s.venue.cashUnit else 1) tendered
    let tender : Tender :=
      { id := c.tenders.length + 1, share := k, terminal := f.sender,
        payment := .cash tendered split.change split.rounding, amount := split.applied, state := .cashAccepted,
        requestTag := f.tag }
    ∃ d : Check,
      d = { c with
        tenders := c.tenders ++ [tender]
        state := if c.anchored then c.state else .settling
        anchoredAt := if c.anchored then c.anchoredAt else some s.now
        plan := if c.anchored then c.plan else { c.plan with kind := .fixed, given := [] }
        lines := if c.anchored then c.lines else c.lines.map fun l => { l with shareSet := none }
        shares := d.shares } ∧
      (∀ j, 1 ≤ j → j ≤ 16 → j ≠ k → d.share j = if c.anchored then c.share j else { c.share j with portions := none }) ∧
      d.share k = { x with
        portions := if c.anchored then x.portions else none
        applied := x.applied + split.applied
        rounding := x.rounding + split.rounding
        revision := x.revision + 1 } ∧
      ∃ e, (((s.welcomed t f).setCheck slot (some d)).evaluate slot).checkAt slot = some e ∧
        exec (.payCash t) s = .next (s.become
          (((((s.welcomed t f).setCheck slot (some d)).evaluate slot).renewLeases f.sender c.number).answered (.tl t) f
            ([0] ++ leBytes 1 tender.id ++ leBytes 4 split.applied ++ leSigned 2 split.rounding ++ leBytes 4 split.change
              ++ leSigned 4 (d.share k).remaining ++ leBytes 2 (d.share k).revision.toNat ++ leBytes 1 e.state.code)))

/-- PAY_CARD while AL is SETTLING or UP goes in flight: the tender is AUTHORIZING, a LIVE entry takes the head of the free list
and joins the send queue, its timeout armed; the terminal's in-flight flag is set and its claim PINNED, its lease gone; no
reply yet (R23, R100, R107, R111, R128, R135). Stated where the requester holds no other claim on the check. -/
def Obligations.CardsGoInFlight : Prop :=
  ∀ (s : State) (t : Tl) (f : Frame) (slot : Nat) (c : Check) (k tip i : Nat) (x : Claim) (e : Nat) (rest : List Nat),
    s.terminalReady t 0x17 f = true → s.cardPayable f slot c k tip → s.alState ≠ .down → s.freeList = e :: rest → e < 48 →
    s.claimAt i = some x → x.terminal = f.sender → x.check = c.number →
    (∀ j y, s.claimAt j = some y → j ≠ i → y.check = c.number → y.terminal ≠ f.sender) →
    let p := s.welcomed t f
    let amount := fieldAt f.body 5 4
    let tender : Tender :=
      { id := c.tenders.length + 1, share := k, terminal := f.sender, payment := .card tip (fieldAt f.body 15 2),
        amount := amount, state := .authorizing, requestTag := f.tag }
    let entry : Entry :=
      { kind := .live ((f.body.drop 18).take (fieldAt f.body 17 1)) (decide (fieldAt f.body 14 1 = 1)), state := .queued,
        tender := some { slot := slot, id := tender.id },
        report := { check := c.number, table := c.table, terminal := f.sender, tender := tender.id },
        amount := amount + tip }
    exec (.payCard t) s = .next (s.become { s with
      links := (s.dropHead (.tl t)).links
      roster := (p.setTerminal f.sender { p.terminal f.sender with inFlight := true }).roster
      checks := s.checks.setIfInBounds slot (some { c with tenders := c.tenders ++ [tender] })
      claims := s.claims.setIfInBounds i (some { x with state := .pinned })
      entries := s.entries.setIfInBounds e { s.entryCell e with use := some entry }
      freeList := rest
      sendQueue := s.sendQueue ++ [e]
      clockUnit := { s.clockUnit with
        deadlines :=
          (placeDeadline { due := s.now + seconds s.venue.authTimeout, owner := .auth e (s.entryCell e).generation }
            s.clockUnit.deadlines).filter fun y => decide (y.owner ≠ .claimLease i) } })

/-- PAY_CARD while AL is DOWN takes the offline decision at once (R112, R138). Eligible, within the floor limit, under the
offline ceiling with what is deferred already, and with a journal slot free, the tender is DEFERRING: the slot at the tail is
RESERVED with the next sequence, the deferred total rises by the auth amount and stays within the ceiling, and APPEND is
requested (R154). Otherwise the tender is FAILED and answered, and nothing but the tender list changes (R114). -/
def Obligations.OfflineCardsStayUnderTheCeiling : Prop :=
  ∀ (s : State) (t : Tl) (f : Frame) (slot : Nat) (c : Check) (k tip : Nat),
    s.terminalReady t 0x17 f = true → s.cardPayable f slot c k tip → s.alState = .down →
    let p := s.welcomed t f
    let amount := fieldAt f.body 5 4
    let accepts := fieldAt f.body 14 1 = 1 ∧ amount + tip ≤ s.venue.floorLimit ∧
      s.journal.deferredTotal + (amount + tip) ≤ s.venue.offlineCeiling ∧ s.journal.occupied < 512
    let tender : TenderState → Tender := fun state =>
      { id := c.tenders.length + 1, share := k, terminal := f.sender, payment := .card tip (fieldAt f.body 15 2),
        amount := amount, state := state, requestTag := f.tag }
    let contents : SlotContents :=
      { check := c.number, table := c.table, terminal := f.sender, tender := c.tenders.length + 1, amount := amount,
        tip := tip, stamp := s.now, token := (f.body.drop 18).take (fieldAt f.body 17 1) }
    (accepts → s.journal.tail < 512 → ∃ u : State, exec (.payCard t) s = .next u ∧ u.pending = s.pending ∧
      u.toPart = { s with
        links := u.links, noticeList := u.noticeList, noticeSequence := u.noticeSequence, noticesLost := u.noticesLost,
        roster := (p.setTerminal f.sender { p.terminal f.sender with inFlight := true }).roster,
        checks := s.checks.setIfInBounds slot
          (some { c with tenders := c.tenders ++ [tender (.deferring s.journal.tail .none)] }),
        claims := u.claims, journal := u.journal, port := s.port.request s.now (.append s.journal.tail),
        clockUnit := { s.clockUnit with deadlines := u.clockUnit.deadlines } } ∧
      u.journal = { s.journal with
        mirror := s.journal.mirror.setIfInBounds s.journal.tail
          (some { state := .reserved, sequence := s.journal.nextSequence, contents := contents }),
        nextSequence := s.journal.nextSequence + 1, tail := (s.journal.tail + 1) % 512,
        occupied := s.journal.occupied + 1, deferredTotal := s.journal.deferredTotal + (amount + tip),
        highWater := s.journal.highWater || decide (s.venue.highWater ≤ s.journal.occupied + 1) } ∧
      u.journal.deferredTotal ≤ u.venue.offlineCeiling ∧
      (∃ i x, u.claimAt i = some { x with state := .pinned } ∧ s.claimAt i = some x ∧ x.terminal = f.sender ∧
        x.check = c.number ∧ x.scope.covers k = true ∧ ∀ j, j ≠ i → u.claimAt j = s.claimAt j) ∧
      (u.link (.tl t)).outbound = (s.link (.tl t)).outbound) ∧
    (¬accepts → exec (.payCard t) s = .next (s.become
      (((p.setCheck slot (some { c with tenders := c.tenders ++ [tender .failed] })).renewLeases f.sender c.number).answered
        (.tl t) f ([0] ++ leBytes 2 c.number ++ leBytes 1 (c.tenders.length + 1) ++ [5] ++ leBytes 1 k ++ leBytes 4 amount
          ++ leBytes 4 tip ++ [0, 0, 0, 0, 0, 0, 0] ++ leSigned 4 (c.share k).remaining
          ++ leBytes 2 (c.share k).revision.toNat ++ leBytes 1 c.state.code))))

/-- VOID_TENDER, by a terminal whose claim covers the tender's share while no tender of the check is in flight: the tender is
REVERSED and its money leaves the share, whose revision rises; an APPROVED tender starts a REVERSAL entry, a DEFERRED one voids
its PENDING journal slot, with MARK_VOID and, where the head is then VOID and no ERASE of it is outstanding, ERASE of the head
requested (R157, R158; `slotVoided`), a CASH_ACCEPTED one starts nothing; the evaluation runs and the reply gives the figures; a
tender that is REVERSED, UNKNOWN, FAILED, DECLINED or LATE_DECLINED is refused NOT_VOIDABLE (R64, R109, R121, R122). That the
REVERSAL entry reports the table where the check stands is log entry 53 (DESIGN CHOICE). Stated where no other terminal's claim
covers the share, so that no SHARE_CHANGED is due. -/
def Obligations.VoidsTakeTheMoneyOut : Prop :=
  ∀ (s : State) (t : Tl) (f : Frame) (slot : Nat) (c : Check) (x : Tender), s.terminalReady t 0x19 f = true →
    f.body.length = 3 → s.findCheck (fieldAt f.body 0 2) = some (slot, c) → within 1 24 (fieldAt f.body 2 1) = true →
    c.tender (fieldAt f.body 2 1) = some x → s.holdsCover f.sender c.number x.share = true → c.flight = 0 →
    let p := s.welcomed t f
    (∀ q : Part, within 1 16 x.share = true →
      (∀ j y, s.claimAt j = some y → y.check = c.number → y.terminal ≠ f.sender → y.scope.covers x.share = false) →
      let d := (c.updateTender x.id fun y => { y with state := .reversed }).setShare x.share { c.share x.share with
        applied := (c.share x.share).applied - x.amount
        tips := (c.share x.share).tips - x.payment.tip
        rounding := (c.share x.share).rounding - x.payment.rounding
        revision := (c.share x.share).revision + 1 }
      (x.state = .cashAccepted ∧ q = p.setCheck slot (some d)) ∨
      (∃ journalSlot z, x.state = .deferred journalSlot ∧ s.journal.slotAt journalSlot = some z ∧ z.state = .pending ∧
        q = (p.setCheck slot (some d)).slotVoided journalSlot z) ∨
      (∃ journalSlot, x.state = .deferred journalSlot ∧
        (∀ z, s.journal.slotAt journalSlot = some z → z.state ≠ .pending) ∧ q = p.setCheck slot (some d)) ∨
      (∃ code, x.state = .approved code ∧ s.freeList ≠ [] ∧ q = (p.setCheck slot (some d)).takeEntry
        { kind := .reversal code .authorization 0, state := .queued, tender := some { slot := slot, id := x.id },
          report := { check := c.number, table := c.table, terminal := x.terminal, tender := x.id },
          amount := x.amount + x.payment.tip } (seconds s.venue.lateWindow)) →
      ∃ e, (q.evaluate slot).checkAt slot = some e ∧
        exec (.voidTender t) s = .next (s.become (((q.evaluate slot).renewLeases f.sender c.number).answered (.tl t) f
          ([0] ++ leBytes 1 x.id ++ [7] ++ leBytes 1 x.share ++ leSigned 4 (d.share x.share).remaining
            ++ leBytes 2 (d.share x.share).revision.toNat ++ leBytes 1 e.state.code)))) ∧
    (x.state = .reversed ∨ x.state = .unknown ∨ x.state = .failed ∨ x.state = .lateDeclined ∨
        (∃ reason, x.state = .declined reason) →
      exec (.voidTender t) s = .next (s.become (p.answered (.tl t) f [0x56]))) ∧
    (∀ code, x.state = .approved code → s.freeList = [] →
      exec (.voidTender t) s = .next (s.become (p.answered (.tl t) f [0x61])))

/-! ### Requests from the order server (02, 03, 07, 09, 10)

`s.orderReady kind length f` says that the request `f` stands ready at the head of OL. -/

/-- OPEN_CHECK fills the lowest free slot with an OPEN check of no line, a NONE plan of one share and figures of 0, opened
now (R27, R33); MOVE_CHECK changes the table alone (R40); a number in use, a full
table and a field out of range are refused. CLOSE_CHECK closes
a SETTLED check, and one with a total of 0 and no accepted tender that is OPEN or PRESENTED; DISCARD_CHECK discards one with
no accepted tender and none in flight; each claim on the check is taken
from its holder with CLAIM_LOST (cause 4 or 5), the slot is freed with its records and every entry that names it becomes an orphan;
any other is refused (R44 to R46, R103, R104). The model's choices: the claims go in the order of their records (log entry 14), and
a terminal never heard is sent nothing (log entry 18). -/
def Obligations.ChecksOpenMoveAndClose : Prop :=
  (∀ (s : State) (f : Frame),
      let number := fieldAt f.body 0 2
      (s.orderReady 0x30 5 f = true → within 1 65535 number = true → within 1 999 (fieldAt f.body 2 2) = true →
        within 1 40 (fieldAt f.body 4 1) = true →
        (∀ slot, s.findCheck number = none → firstFree s.checks = some slot → ∃ c : Check,
          exec .openCheck s = .next (s.become ((s.setCheck slot (some c)).answered .ol f ([0] ++ timeBytes s.now))) ∧
          c.number = number ∧ c.table = fieldAt f.body 2 2 ∧ c.covers = fieldAt f.body 4 1 ∧ c.state = .opened ∧ c.lines = [] ∧
          c.plan = { kind := .none, count := 1, given := [] } ∧ c.totals.total = 0 ∧ c.totals.itemNet = 0 ∧
          c.totals.service = 0 ∧ (∀ i : Nat, c.totals.bases[i]?.getD 0 = 0 ∧ c.totals.taxes[i]?.getD 0 = 0) ∧
          (∀ k, c.share k = Share.blank 0) ∧ c.tenders = [] ∧ c.openedAt = s.now ∧ c.presentedAt = none ∧ c.anchoredAt = none ∧
          c.settledAt = none ∧ c.dwell = 0 ∧ c.alerted = false) ∧
        (s.findCheck number ≠ none → exec .openCheck s = .next (s.become (s.answered .ol f [0x21]))) ∧
        (s.findCheck number = none → (∀ i, i < 160 → s.checkAt i ≠ none) →
          exec .openCheck s = .next (s.become (s.answered .ol f [0x22])))) ∧
      (s.orderReady 0x30 5 f = true →
        within 1 65535 number = false ∨ within 1 999 (fieldAt f.body 2 2) = false ∨ within 1 40 (fieldAt f.body 4 1) = false →
        exec .openCheck s = .next (s.become (s.answered .ol f [0x02]))) ∧
      (s.orderReady 0x34 4 f = true → within 1 999 (fieldAt f.body 2 2) = false →
        exec .moveCheck s = .next (s.become (s.answered .ol f [0x02]))) ∧
      (s.findCheck number = none →
        (s.orderReady 0x34 4 f = true → within 1 999 (fieldAt f.body 2 2) = true →
          exec .moveCheck s = .next (s.become (s.answered .ol f [0x20]))) ∧
        (s.orderReady 0x35 2 f = true → exec .closeCheck s = .next (s.become (s.answered .ol f [0x20]))) ∧
        (s.orderReady 0x36 2 f = true → exec .discardCheck s = .next (s.become (s.answered .ol f [0x20])))) ∧
      (∀ slot c, s.orderReady 0x34 4 f = true → within 1 999 (fieldAt f.body 2 2) = true → s.findCheck number = some (slot, c) →
        exec .moveCheck s = .next (s.become ((s.setCheck slot (some { c with table := fieldAt f.body 2 2 })).answered .ol f
          ([0] ++ leBytes 2 c.table))))) ∧
  (∀ (s : State) (f : Frame) (slot : Nat) (c : Check), s.findCheck (fieldAt f.body 0 2) = some (slot, c) →
      let accepted := ∃ x ∈ c.tenders, x.state.accepted = true
      let names : Entry → Bool := fun x => x.tender.any fun r => decide (r.slot = slot)
      let orphan : EntryCell → EntryCell := fun y =>
        { y with use := y.use.map fun x => if names x then { x with tender := none } else x }
      let freed : Nat → Part := fun cause =>
        let p := ((inUse s.claims).filter fun x => decide (x.2.check = c.number)).foldl (Part.deprived cause) s.toPart
        { p.setCheck slot none with entries := tabulate 48 fun i => orphan (s.entryCell i) }
      (s.orderReady 0x35 2 f = true →
        c.state = .settled ∨ ((c.state = .opened ∨ c.state = .presented) ∧ c.totals.total = 0 ∧ ¬accepted) →
        exec .closeCheck s = .next (s.become ((freed 4).answered .ol f
          ([0] ++ leBytes 4 c.totals.total ++ timeBytes (c.settledAt.getD 0))))) ∧
      (s.orderReady 0x35 2 f = true →
        c.state = .settling ∨ ((c.state = .opened ∨ c.state = .presented) ∧ (c.totals.total ≠ 0 ∨ accepted)) →
        exec .closeCheck s = .next (s.become (s.answered .ol f [0x34]))) ∧
      (s.orderReady 0x36 2 f = true → ¬accepted → c.flight = 0 →
        exec .discardCheck s = .next (s.become ((freed 5).answered .ol f ([0] ++ leBytes 4 c.totals.total)))) ∧
      (s.orderReady 0x36 2 f = true → accepted →
        exec .discardCheck s = .next (s.become (s.answered .ol f [0x35]))) ∧
      (s.orderReady 0x36 2 f = true → ¬accepted → c.flight ≠ 0 →
        exec .discardCheck s = .next (s.become (s.answered .ol f [0x31]))))

/-- ADD_LINE, VOID_LINE and SET_COVERS on a check that is not anchored and stands under a rule plan, NONE with one share: the
lines or the covers change as asked, the totals are worked out again, and every share of the list takes the figures worked out
under the plan, a revision rising where the due changes (R34, R35, R37 to R39, R54, R56); the holders of those shares are sent
SHARE_CHANGED with cause RECOMPUTED (R65, R66). A class base below 0, a figure over the limit, and a plan that refuses its
recomputation refuse the request, and nothing changes. `takesChange` states this for one request. ADD_LINE, VOID_LINE and
SET_COVERS on an anchored check, or on a restored one under FIXED (R62): the difference of the totals is charged to the open
share, the highest of the list that has no accepted tender, its pre-tax part held within its due; no other share changes; without
an open share, or where its due would fall below 0, the request is refused ANCHORED; a change that moves no figure needs none
(R34, R36, R37). The holders of the share charged are sent SHARE_CHANGED with cause DELTA (R65, R66). `chargesChange` states this
for one request. The model's choices: the holders are told in the order of their claim records (log entry 14), one never heard is
sent nothing (log entry 18), and a restored check under FIXED that is not anchored is charged by R36, its reply's share index 0
(R37; log entry 57, DEDUCED). -/
def Obligations.ChangesAreTakenOrCharged : Prop :=
  (∀ (s : State) (f : Frame) (slot : Nat) (c : Check), s.findCheck (fieldAt f.body 0 2) = some (slot, c) →
      c.anchored = false → c.plan.kind ≠ .fixed → c.flight = 0 → within 1 16 c.plan.count = true →
      (c.plan.kind = .none → c.plan.count = 1) →
      (∀ kind line, s.orderReady 0x31 13 f = true → asksLine f c kind line → c.lines.length < 200 → s.linesInUse < 3072 →
        s.takesChange f slot c (c.lines ++ [line]) c.covers .addLine
          fun total => leBytes 1 (c.lines.length + 1) ++ leBytes 4 total ++ [0]) ∧
      (∀ line, s.orderReady 0x32 3 f = true → within 1 200 (fieldAt f.body 2 1) = true →
        (c.lines.find? fun l => decide (l.number = fieldAt f.body 2 1)) = some line → line.live = true →
        s.takesChange f slot c (c.lines.map fun l => if l.number = fieldAt f.body 2 1 then { l with live := false } else l)
          c.covers .voidLine fun total => leBytes 4 total ++ [0]) ∧
      (s.orderReady 0x33 3 f = true → within 1 40 (fieldAt f.body 2 1) = true →
        s.takesChange f slot c c.lines (fieldAt f.body 2 1) .setCovers fun total => leBytes 4 total ++ [0])) ∧
  (∀ (s : State) (f : Frame) (slot : Nat) (c : Check), s.findCheck (fieldAt f.body 0 2) = some (slot, c) →
      c.anchored = true ∨ c.plan.kind = .fixed → c.flight = 0 → within 1 16 c.plan.count = true →
      (∀ kind line, s.orderReady 0x31 13 f = true → asksLine f c kind line → c.lines.length < 200 → s.linesInUse < 3072 →
        s.chargesChange f slot c (c.lines ++ [line]) c.covers .addLine
          fun total k => leBytes 1 (c.lines.length + 1) ++ leBytes 4 total ++ leBytes 1 k) ∧
      (∀ line, s.orderReady 0x32 3 f = true → within 1 200 (fieldAt f.body 2 1) = true →
        (c.lines.find? fun l => decide (l.number = fieldAt f.body 2 1)) = some line → line.live = true →
        s.chargesChange f slot c (c.lines.map fun l => if l.number = fieldAt f.body 2 1 then { l with live := false } else l)
          c.covers .voidLine fun total k => leBytes 4 total ++ leBytes 1 k) ∧
      (s.orderReady 0x33 3 f = true → within 1 40 (fieldAt f.body 2 1) = true →
        s.chargesChange f slot c c.lines (fieldAt f.body 2 1) .setCovers fun total k => leBytes 4 total ++ leBytes 1 k))

/-- READ_CHECK changes nothing and reports the check: section 0 its record, in 106 bytes after the three common fields; sections
1, 2 and 3 a run of its lines, shares or tenders from a first index on, at most 16, 8 or 6 of them, with their count, each entry
laid out as R48 and R49 give (the code and the reason of a late mark belong to its DEFERRING tender: log entry 31, DEDUCED; an
absent stamp of section 0 is 0: log entry 38, DEDUCED) (R47 to R49). READ_EXCEPTIONS reports the list's length, the lost count and
up to 8 entries of 35 bytes from a first index on, and clears the lost count when asked to; a field out of range is refused;
CLEAR_EXCEPTION removes the oldest entry of a number and no other, and a number that no entry has is refused (R166, R167). An
exception that arrives takes the next number and the present time, joins a list of fewer than 64 or is counted lost, and
EXCEPTION_ADDED is produced (R164). -/
def Obligations.ChecksAndExceptionsAreRead : Prop :=
  (∀ (s : State) (f : Frame) (slot : Nat) (c : Check), s.orderReady 0x37 4 f = true →
    s.findCheck (fieldAt f.body 0 2) = some (slot, c) →
    let first := fieldAt f.body 3 1
    let head := fun section_ : Nat => [0] ++ leBytes 2 c.number ++ leBytes 1 section_
    let summary := leBytes 2 c.table ++ leBytes 1 c.covers
      ++ leBytes 1 (match c.state with | .opened => 0 | .presented => 1 | .settling => 2 | .settled => 3)
      ++ leBytes 1 (match c.state with | .opened | .presented => 0 | .settling | .settled => 1)
      ++ leBytes 1 (match c.plan.kind with | .none => 0 | .even => 1 | .byItem => 2 | .amount => 3 | .fixed => 4)
      ++ leBytes 1 c.plan.count ++ leBytes 1 c.lines.length ++ leBytes 1 c.tenders.length
      ++ leBytes 1 (c.tenders.filter fun x => x.state.inFlight).length
      ++ (c.totals.bases.toList.map (leBytes 4)).flatten ++ leBytes 4 c.totals.itemNet
      ++ (c.totals.taxes.toList.map (leBytes 4)).flatten ++ leBytes 4 c.totals.service ++ leBytes 4 c.totals.total
      ++ timeBytes c.openedAt ++ timeBytes (c.presentedAt.getD 0) ++ timeBytes (c.anchoredAt.getD 0)
      ++ timeBytes (c.settledAt.getD 0)
      ++ leBytes 1 ((if c.presentedAt.isSome then 1 else 0) + (if c.anchoredAt.isSome then 2 else 0)
        + (if c.settledAt.isSome then 4 else 0)) ++ leBytes 2 c.dwell ++ [flagByte c.alerted]
    let line : Line → List Byte := fun l =>
      leBytes 1 l.number ++ leBytes 1 (match l.kind with | .item => 0 | .discount => 1) ++ leBytes 1 l.cls
        ++ leBytes 1 (if l.live then 0 else 1)
        ++ leBytes 4 l.code.toNat ++ leSigned 4 l.price ++ leBytes 1 l.quantity
        ++ leBytes 2 (match l.shareSet with | some set => set.toNat | none => 0)
    let share : Nat → List Byte := fun k =>
      leBytes 1 k ++ leBytes 1 (if (c.share k).remaining = 0 then 2 else if (c.share k).applied = 0 then 0 else 1)
        ++ leBytes 4 (c.share k).due ++ leBytes 4 (c.share k).preTax ++ leBytes 4 (c.share k).applied
        ++ leBytes 4 (c.share k).tips ++ leSigned 2 (c.share k).rounding ++ leBytes 2 (c.share k).revision.toNat
    let tender : Tender → List Byte := fun x =>
      leBytes 1 x.id ++ leBytes 1 x.share ++ leBytes 1 (match x.payment with | .card _ _ => 0 | .cash _ _ _ => 1)
        ++ leBytes 1 (match x.state with
          | .authorizing => 0 | .deferring _ _ => 1 | .approved _ => 2 | .deferred _ => 3 | .declined _ => 4 | .failed => 5 | .cashAccepted => 6 | .reversed => 7 | .unknown => 8 | .lateDeclined => 9)
        ++ leBytes 2 x.terminal ++ leBytes 4 x.amount
        ++ (match x.payment with
          | .card tip _ => leBytes 4 tip ++ [0, 0, 0, 0, 0, 0, 0, 0, 0, 0]
          | .cash tendered change rounding => [0, 0, 0, 0] ++ leBytes 4 tendered ++ leBytes 4 change ++ leSigned 2 rounding)
        ++ leBytes 1 (match x.state with | .declined reason | .deferring _ (.declined reason) => reason | _ => 0)
        ++ (match x.state with | .approved code | .deferring _ (.confirmed code) => code | _ => [0, 0, 0, 0, 0, 0])
        ++ leBytes 2 (match x.payment with | .card _ suffix => suffix | .cash _ _ _ => 0)
    (fieldAt f.body 2 1 = 0 → summary.length = 106 ∧
      exec .readCheckSummary s = .next (s.become (s.answered .ol f (head 0 ++ summary)))) ∧
    (fieldAt f.body 2 1 = 1 → 1 ≤ first → (∀ l ∈ c.lines, (line l).length = 15) ∧
      exec .readCheckLines s = .next (s.become (s.answered .ol f
        (head 1 ++ leBytes 1 (min 16 (c.lines.length - (first - 1)))
          ++ (((c.lines.drop (first - 1)).take 16).map line).flatten)))) ∧
    (fieldAt f.body 2 1 = 2 → 1 ≤ first → (∀ k, (share k).length = 22) ∧
      exec .readCheckShares s = .next (s.become (s.answered .ol f
        (head 2 ++ leBytes 1 (min 8 (c.plan.count - (first - 1)))
          ++ (((List.range' first (c.plan.count - (first - 1))).take 8).map share).flatten)))) ∧
    (fieldAt f.body 2 1 = 3 → 1 ≤ first →
      (∀ x ∈ c.tenders, (∀ code, x.state = .approved code → code.length = 6) →
        (∀ j code, x.state = .deferring j (.confirmed code) → code.length = 6) → (tender x).length = 33) ∧
      exec .readCheckTenders s = .next (s.become (s.answered .ol f
        (head 3 ++ leBytes 1 (min 6 (c.tenders.length - (first - 1)))
          ++ (((c.tenders.drop (first - 1)).take 6).map tender).flatten))))) ∧
  (∀ (s : State) (f : Frame),
    (s.orderReady 0x3A 2 f = true → within 1 64 (fieldAt f.body 0 1) = true → fieldAt f.body 1 1 ≤ 1 →
      (∀ e ∈ s.exceptions,
        e.bytes = leBytes 2 e.number.toNat ++ leBytes 1 e.kind ++ leBytes 2 e.detail ++ leBytes 2 e.check ++ leBytes 2 e.table
          ++ leBytes 2 e.terminal ++ leBytes 1 e.tender ++ leBytes 4 e.amount
          ++ leBytes 4 ((e.sequence.map fun x => x.toNat).getD 0) ++ e.code.getD [0, 0, 0, 0, 0, 0]
          ++ leBytes 1 ((if e.sequence.isSome then 1 else 0) + (if e.code.isSome then 2 else 0))
          ++ timeBytes e.stamp ++ timeBytes e.slotStamp ∧
        (e.code.all (fun code => code.length == 6) = true → e.bytes.length = 35)) ∧
      exec .readExceptions s = .next (s.become
        (Part.answered { s with exceptionsLost := if fieldAt f.body 1 1 = 1 then 0 else s.exceptionsLost } .ol f
          ([0] ++ leBytes 1 s.exceptions.length ++ leBytes 1 s.exceptionsLost
            ++ leBytes 1 (min 8 (s.exceptions.length - (fieldAt f.body 0 1 - 1)))
            ++ (((s.exceptions.drop (fieldAt f.body 0 1 - 1)).take 8).map fun e => e.bytes).flatten)))) ∧
    (s.orderReady 0x3A 2 f = true → within 1 64 (fieldAt f.body 0 1) = false ∨ 1 < fieldAt f.body 1 1 →
      exec .readExceptions s = .next (s.become (s.answered .ol f [0x02]))) ∧
    (∀ before e after, s.orderReady 0x3B 2 f = true → s.exceptions = before ++ e :: after →
      e.number.toNat = fieldAt f.body 0 2 → (∀ x ∈ before, x.number.toNat ≠ fieldAt f.body 0 2) →
      exec .clearException s = .next (s.become (Part.answered { s with exceptions := before ++ after } .ol f
        ([0] ++ leBytes 1 (before ++ after).length)))) ∧
    (s.orderReady 0x3B 2 f = true → (∀ x ∈ s.exceptions, x.number.toNat ≠ fieldAt f.body 0 2) →
      exec .clearException s = .next (s.become (s.answered .ol f [0x02]))) ∧
    (∀ e : ExceptionEntry,
      let number := leBytes 2 s.exceptionNumber.toNat ++ leBytes 1 e.kind
      (s.exceptions.length < 64 → s.raise e = Part.notice
        { s with
          exceptionNumber := s.exceptionNumber + 1
          exceptions := s.exceptions ++ [{ e with number := s.exceptionNumber, stamp := s.now }] }
        4 (number ++ [1] ++ leBytes 1 (s.exceptions.length + 1) ++ leBytes 1 s.exceptionsLost)) ∧
      (64 ≤ s.exceptions.length → s.raise e = Part.notice
        { s with exceptionNumber := s.exceptionNumber + 1, exceptionsLost := saturate 255 s.exceptionsLost }
        4 (number ++ [0] ++ leBytes 1 s.exceptions.length ++ leBytes 1 (saturate 255 s.exceptionsLost)))))

/-- RESOLVE_TENDER decides an UNKNOWN tender. REVERSE makes it REVERSED and moves no money. ACCEPT makes it APPROVED with the
code given: a check that is not anchored is anchored, the money enters the share, the evaluation runs, and the holders of the share
are sent SHARE_CHANGED with cause PAYMENT (R42, R63, R65, R66, R124, R125; in the order of their records, log entry 14, and none to
a terminal never heard, log entry 18: the model's choices). On either row a tender that is not UNKNOWN is refused NOT_VOIDABLE, one
of a check with a tender in flight SETTLING, an id that names no tender NO_TENDER; an ACCEPT that the share cannot take is refused
OVER_TENDER; a resolution other than 1 and 2, or an id out of range, BAD_FIELD, and a number that names no check NO_CHECK. -/
def Obligations.UnknownTendersAreResolved : Prop :=
  (∀ (s : State) (f : Frame) (slot : Nat) (c : Check), s.orderReady 0x38 10 f = true →
    s.findCheck (fieldAt f.body 0 2) = some (slot, c) → within 1 24 (fieldAt f.body 2 1) = true →
    (∀ x, c.tender (fieldAt f.body 2 1) = some x → x.state = .unknown → c.flight = 0 →
      (fieldAt f.body 3 1 = 2 → within 1 16 x.share = true →
        exec .resolveTenderReverse s = .next (s.become
          ((s.setCheck slot (some (c.updateTender x.id fun y => { y with state := .reversed }))).answered .ol f
            ([0, 7] ++ leSigned 4 (c.share x.share).remaining ++ leBytes 2 (c.share x.share).revision.toNat
              ++ leBytes 1 c.state.code)))) ∧
      (fieldAt f.body 3 1 = 1 → 1 ≤ x.share → x.share ≤ c.plan.count → x.share ≤ 16 →
        (x.amount : Int) ≤ (c.share x.share).remaining →
        let d := c.entered x (.approved (bytesAt f.body 4 6)) s.now
        let q := ((s.keeping .ol).setCheck slot (some d)).evaluate slot
        ∃ e, q.checkAt slot = some e ∧
          exec .resolveTenderAccept s = .next (s.become ((q.sharesTold d 3 [x.share] none).concluded .ol f
            ([0, 2] ++ leSigned 4 (d.share x.share).remaining ++ leBytes 2 (d.share x.share).revision.toNat
              ++ leBytes 1 e.state.code)))) ∧
      (fieldAt f.body 3 1 = 1 → c.plan.count < x.share ∨ (c.share x.share).remaining < (x.amount : Int) →
        exec .resolveTenderAccept s = .next (s.become (s.answered .ol f [0x52])))) ∧
    (∀ i, fieldAt f.body 3 1 = 1 ∧ i = Instr.resolveTenderAccept ∨ fieldAt f.body 3 1 = 2 ∧ i = .resolveTenderReverse →
      (c.tender (fieldAt f.body 2 1) = none → exec i s = .next (s.become (s.answered .ol f [0x55]))) ∧
      (∀ x, c.tender (fieldAt f.body 2 1) = some x →
        (x.state ≠ .unknown → exec i s = .next (s.become (s.answered .ol f [0x56]))) ∧
        (x.state = .unknown → c.flight ≠ 0 → exec i s = .next (s.become (s.answered .ol f [0x31])))))) ∧
  (∀ (s : State) (f : Frame) (i : Instr), s.orderReady 0x38 10 f = true →
    (fieldAt f.body 3 1 ≠ 2 ∧ i = .resolveTenderAccept ∨ fieldAt f.body 3 1 = 2 ∧ i = .resolveTenderReverse) →
    let allowed := within 1 24 (fieldAt f.body 2 1) = true ∧ within 1 2 (fieldAt f.body 3 1) = true
    (¬allowed → exec i s = .next (s.become (s.answered .ol f [0x02]))) ∧
    (allowed → s.findCheck (fieldAt f.body 0 2) = none → exec i s = .next (s.become (s.answered .ol f [0x20]))))

/-- The Roster stands before every terminal request: it refuses a terminal outside the permit list without changing its entry
(R17); discards, with no reply, a copy that another link heard within the duplicate window, counting it (R18); and takes a
different frame heard on another link within that window for a second identity: an UNSEEN or ACTIVE entry becomes SUSPECT, loses
its ACTIVE claims with CLAIM_LOST, cause SUSPECT, and TERMINAL_SUSPECT is produced (R19, R102, R104). Every other frame of a
SUSPECT or BARRED terminal, heard on another link within the window or not, updates the entry and is refused, with no notice (R19,
R20). TERMINAL_CONTROL, for a terminal of 1 to 96: RESET makes its entry UNSEEN, BAR makes it BARRED, an UNSEEN or ACTIVE one
losing its ACTIVE claims with cause BARRED, and UNBAR makes a BARRED entry UNSEEN and changes no other; the other fields of the
entry stay but for the claim count; the reply gives the states before and after. A number outside 1 to 96 and an action outside 1
to 3 are refused (R21, R22). Claims are lost in the order of their records (log entry 14, DESIGN CHOICE); which row takes which
frame is log entry 17 (DEDUCED); a terminal never heard is sent no advisory (log entry 18, DESIGN CHOICE). -/
def Obligations.TerminalsAreControlled : Prop :=
  (∀ (s : State) (t : Tl) (f : Frame) (c : Instr), s.control.startup = .ready → s.kept = none →
    (s.link (.tl t)).inbound.head? = some f → (s.link (.tl t)).outbound.length < 16 → takesFromTerminal c t f →
    let n := f.terminal.toNat
    let e := s.terminal n
    let heard : Heard := { link := t, time := s.now, tag := f.tag, kind := f.kind }
    let window : Heard → Prop := fun h => h.link ≠ t ∧ (s.now - h.time).toNat ≤ s.venue.duplicateWindow
    let code : Tl → Nat := fun l => match l with | .tl0 => 0 | .tl1 => 1 | .tl2 => 2 | .tl3 => 3
    let active := (inUse s.claims).filter fun x => decide (x.2.terminal = n) && decide (x.2.state = .active)
    (s.permitted n = true ↔ 1 ≤ n ∧ n ≤ 96 ∧ s.venue.permits.getLsbD (n - 1) = true) ∧
    (s.permitted n = false → exec c s = .next (s.become (s.answered (.tl t) f [0x10]))) ∧
    (∀ h, s.permitted n = true → e.heard = some h → window h → h.tag = f.tag → h.kind = f.kind →
      exec c s = .next (s.become { s.dropHead (.tl t) with reheard := saturate 65535 s.reheard })) ∧
    (∀ h, s.permitted n = true → e.heard = some h → window h → h.tag ≠ f.tag ∨ h.kind ≠ f.kind →
      e.state = .unseen ∨ e.state = .active →
      exec c s = .next (s.become
        (((active.foldl (Part.deprived 2) ((s.keeping (.tl t)).setTerminal n { e with state := .suspect, heard := some heard })).notice
          3 (leBytes 2 n ++ leBytes 1 (code h.link) ++ leBytes 1 (code t) ++ [f.kind, f.tag])).concluded (.tl t) f [0x11]))) ∧
    (s.permitted n = true → e.state = .suspect ∨ e.state = .barred →
      (∀ h, e.heard = some h → window h → h.tag ≠ f.tag ∨ h.kind ≠ f.kind) →
      exec c s = .next (s.become ((s.setTerminal n { e with heard := some heard }).answered (.tl t) f
        [if e.state = .suspect then 0x11 else 0x12])))) ∧
  (∀ (s : State) (f : Frame), s.orderReady 0x39 3 f = true →
    let n := fieldAt f.body 0 2
    let action := fieldAt f.body 2 1
    let e := s.terminal n
    let moves : Instr → RosterState → List (Nat × Claim) → Prop := fun i new lost =>
      exec i s = .next (s.become ((lost.foldl (Part.deprived 3) (s.setTerminal n { e with state := new })).answered .ol f
        ([0] ++ leBytes 1 e.state.code ++ leBytes 1 new.code)))
    let active := (inUse s.claims).filter fun x => decide (x.2.terminal = n) && decide (x.2.state = .active)
    (within 1 96 n = true → action = 1 → moves .terminalControlReset .unseen []) ∧
    (within 1 96 n = true → action = 2 →
      moves .terminalControlBar .barred (if e.state = .unseen ∨ e.state = .active then active else [])) ∧
    (within 1 96 n = true → action = 3 → moves .terminalControlUnbar (if e.state = .barred then .unseen else e.state) []) ∧
    (within 1 96 n = false → ∀ i, (action = 2 ∧ i = Instr.terminalControlBar ∨ action = 3 ∧ i = .terminalControlUnbar ∨
      action ≠ 2 ∧ action ≠ 3 ∧ i = .terminalControlReset) → exec i s = .next (s.become (s.answered .ol f [0x02]))) ∧
    (action = 0 ∨ 3 < action → exec .terminalControlReset s = .next (s.become (s.answered .ol f [0x02]))))

/-! ### The journal (09) -/

/-- The journal keeps its form at every step: the entries in use run from the head to the tail, as many as the occupied count, with
sequences that rise by one up to the next sequence (R153); the deferred total is the sum of the auth amounts of the RESERVED and
PENDING entries (R160); an APPEND is outstanding for RESERVED slots alone, an ERASE of the head for a head that is VOID (R149,
R154, R158); under the lock every entry is EMPTY and the occupied count is 512 (R163); before the end of the scan the journal is as
after reset. Stated for states in which the controller's phase, the deadline list and this form itself hold. A reservation that
brings the occupied count to the mark while the flag is clear sets the flag and produces JOURNAL_HIGH, with the occupied count, the
mark, the PENDING entries and the deferred total (R154, R161); one below the mark, or with the flag set, produces nothing. -/
def Obligations.EveryStepKeepsTheJournal : Prop :=
  (∀ s t : State, s.phased = true → s.timed = true → s.journaled = true → step s = .next t → t.journaled = true) ∧
  (∀ (p : Part) (x : SlotContents), p.journal.tail < 512 →
    let j := p.journal
    let high := decide (p.venue.highWater ≤ j.occupied + 1) && !j.highWater
    let q : Part := { p with
      journal := { j with
        mirror := j.mirror.setIfInBounds j.tail (some { state := .reserved, sequence := j.nextSequence, contents := x })
        nextSequence := j.nextSequence + 1
        tail := (j.tail + 1) % 512
        occupied := j.occupied + 1
        deferredTotal := j.deferredTotal + (x.amount + x.tip)
        highWater := j.highWater || high }
      port := p.port.request p.now (.append j.tail) }
    let pending := ((List.range 512).filter fun k => (q.journal.slotAt k).any fun z => decide (z.state = .pending)).length
    p.reserve x = (j.tail, if high then q.notice 6 (leBytes 2 (j.occupied + 1) ++ leBytes 2 p.venue.highWater ++ leBytes 2 pending
      ++ leBytes 4 (j.deferredTotal + (x.amount + x.tip))) else q))

/-! ### The service clock (10) -/

/-- The tick: the clock rises by one, the tick counter returns to 0, a divisor that is due takes effect, a COUNTING calibration
counts the system clocks that the tick was still to count (log entry 28, DEDUCED), and the 1000th tick of a second leaves a whole
second to be counted by a command of its own (R168, R169, R174; that it is kept for one is log entry 6, DESIGN CHOICE). In RESET and
HALTED the clock does not run. A whole second (R176, R177): in READY and SAVING every PRESENTED or SETTLING check with a share not
PAID and no claim gains one second of dwell; one that reaches the threshold for the first time is alerted with a notice; a check
that is not gated keeps its dwell. The checks are taken in the order of their slots (log entry 22, DESIGN CHOICE). In LOADING,
SCANNING and RESTORING no check gains dwell. With no whole second to count, nothing happens (log entry 5, DESIGN CHOICE). -/
def Obligations.TicksAndSecondsCount : Prop :=
  (∀ s : State,
      (s.control.startup.running = true →
        exec .serviceClockTick s = .next { s with clockUnit := { s.clockUnit with
          clock := s.now + 1
          tickCounter := 0
          divisor := s.clockUnit.nextDivisor.getD s.clockUnit.divisor
          nextDivisor := none
          second := if s.clockUnit.second = 999 then 0 else s.clockUnit.second + 1
          secondsDue := if s.clockUnit.second = 999 then s.clockUnit.secondsDue + 1 else s.clockUnit.secondsDue
          calibration := match s.clockUnit.calibration with
            | .idle => .idle
            | .waiting => .waiting
            | .counting edges clocks => .counting edges (clocks + (s.clockUnit.divisor - s.clockUnit.tickCounter)) } }) ∧
      (s.control.startup = .reset ∨ s.control.startup = .halted → exec .serviceClockTick s = .next s)) ∧
  (∀ (s : State) (due : Nat), s.clockUnit.secondsDue = due + 1 →
      let p : Part := { s with clockUnit := { s.clockUnit with secondsDue := due } }
      let gains : Part → Nat → Check → Part := fun q slot c =>
        let unpaid := (List.range' 1 c.plan.count).filter fun k => decide ((c.share k).remaining ≠ 0)
        let claimed := (List.range 64).any fun i => (s.claimAt i).any fun y => decide (y.check = c.number)
        let d : Check := { c with dwell := saturate 65535 c.dwell }
        if (c.state = .presented ∨ c.state = .settling) ∧ unpaid ≠ [] ∧ claimed = false then
          if s.venue.dwellThreshold ≠ 0 ∧ s.venue.dwellThreshold ≤ d.dwell ∧ c.alerted = false then
            (q.setCheck slot (some { d with alerted := true })).notice 2
              (leBytes 2 c.number ++ leBytes 2 c.table ++ leBytes 1 c.state.code ++ leBytes 2 d.dwell
                ++ leBytes 1 unpaid.length ++ leSigned 4 ((unpaid.map fun k => (c.share k).remaining).sum)
                ++ timeBytes (c.presentedAt.getD 0))
          else q.setCheck slot (some d)
        else q
      (s.control.startup = .ready ∨ s.control.startup = .saving →
        exec .wholeSecond s = .next (s.become ((List.range 160).foldl (fun q slot =>
          (s.checkAt slot).elim q (gains q slot)) p))) ∧
      (∀ slot c, s.control.startup = .ready ∨ s.control.startup = .saving → s.checkAt slot = some c →
        (∀ i, i ≠ slot → s.checkAt i = none) → exec .wholeSecond s = .next (s.become (gains p slot c))) ∧
      (s.control.startup = .loading ∨ s.control.startup = .scanning ∨ s.control.startup = .restoring →
        exec .wholeSecond s = .next (s.become p))) ∧
  (∀ s : State, s.control.startup = .reset ∨ s.control.startup = .halted ∨ s.clockUnit.secondsDue = 0 →
    exec .wholeSecond s = .next s)

/-- The deadline list keeps its form at every step: it stands in the order of the due times, each ACTIVE claim, entry that is not
FREE, AL timer and running calibration has exactly one deadline in it and nothing else has one, and before READY it is empty
(R170, R171); so it never holds more than 115. Stated for states in which the controller's phase and this form hold and no expiry
has waited for 2^30 ms (expiries may be delivered late: log entry 6, DESIGN CHOICE; the guard left in the list at HALTED is log
entry 35, DEDUCED). On an ordered list an arming puts a deadline after every entry due earlier or at the same time and before
every later one, removes none and keeps the order (R171); arming again replaces an owner's entry; the expiry that is delivered
next is that of the first entry, once its time is reached while the clock runs (R169, R172). -/
def Obligations.DeadlinesStandInOrder : Prop :=
  (∀ s t : State, s.phased = true → s.timed = true → s.prompt = true → step s = .next t → t.timed = true) ∧
  (∀ s : State, s.timed = true → s.clockUnit.deadlines.length ≤ 115) ∧
  (∀ (now : Time) (d : Deadline) (list : List Deadline),
    (∀ e ∈ d :: list, -2 ^ 30 < (e.due - now).toInt ∧ (e.due - now).toInt < 2 ^ 30) →
    (list.Pairwise fun a b => (a.due - now).toInt ≤ (b.due - now).toInt) →
    ∃ before after, list = before ++ after ∧ placeDeadline d list = before ++ d :: after ∧
      (∀ e ∈ before, (e.due - now).toInt ≤ (d.due - now).toInt) ∧ (∀ e ∈ after, (d.due - now).toInt < (e.due - now).toInt) ∧
      (placeDeadline d list).Pairwise fun a b => (a.due - now).toInt ≤ (b.due - now).toInt) ∧
  (∀ (p : Part) (owner : Owner) (interval : Time), p.rearm owner interval = { p with clockUnit := { p.clockUnit with
    deadlines := placeDeadline { due := p.now + interval, owner := owner }
      (p.clockUnit.deadlines.filter fun e => decide (e.owner ≠ owner)) } }) ∧
  (∀ (p : Part) (d : Deadline) (rest : List Deadline), p.clockUnit.deadlines = d :: rest →
    (p.dueOwner = some d.owner ↔ (p.control.startup ≠ .reset ∧ p.control.startup ≠ .halted ∧ (d.due - p.now).toInt ≤ 0)) ∧
    (p.dueOwner = none ∨ p.dueOwner = some d.owner))

/-- Calibration: CALIBRATE, when none runs, waits for the reference with a guard of 1500 ms armed (R173); the first edge starts
the count and each of the next 15 counted edges rearms the guard (R174); the 16th gives the divisor, rounded half up, which
takes effect at the next tick when it lies in 23280 to 24720 (R175); a guard that expires fails the calibration (R174, R175). A
second CALIBRATE is refused BUSY. -/
def Obligations.CalibrationCountsTheReference : Prop :=
  ∀ (s : State),
    let guarded := fun k : Calibration => (s.setClock { s.clockUnit with calibration := k }).rearm .calGuard 1500#32
    (∀ f, s.orderReady 0x3D 0 f = true → s.clockUnit.calibration = .idle →
      (∀ d ∈ s.clockUnit.deadlines, d.owner ≠ .calGuard) →
      exec .calibrate s = .next (s.become ((guarded .waiting).answered .ol f ([0] ++ leBytes 2 s.clockUnit.divisor)))) ∧
    (∀ f, s.orderReady 0x3D 0 f = true → s.clockUnit.calibration ≠ .idle →
      exec .calibrate s = .next (s.become (s.answered .ol f [0x60]))) ∧
    (s.control.startup.running = true →
      (s.clockUnit.calibration = .idle → exec .refppsEdge s = .next s) ∧
      (s.clockUnit.calibration = .waiting → exec .refppsEdge s = .next (s.become (guarded (.counting 0 0)))) ∧
      (∀ edges clocks, s.clockUnit.calibration = .counting edges clocks → edges < 15 →
        exec .refppsEdge s = .next (s.become (guarded (.counting (edges + 1) clocks)))) ∧
      (∀ clocks, s.clockUnit.calibration = .counting 15 clocks →
        let result := (2 * clocks + 16000) / 32000
        let p := s.cancel .calGuard
        (23280 ≤ result → result ≤ 24720 → exec .refppsEdge s = .next (s.become
          ((p.setClock { p.clockUnit with calibration := .idle, calFail := false, nextDivisor := some result }).notice 7
            (leBytes 2 result ++ leBytes 2 s.clockUnit.divisor ++ leBytes 4 clocks)))) ∧
        (result < 23280 ∨ 24720 < result → exec .refppsEdge s = .next (s.become
          ((p.setClock { p.clockUnit with calibration := .idle, calFail := true }).notice 8
            ([2] ++ leBytes 2 s.clockUnit.divisor ++ leBytes 4 clocks ++ [16])))))) ∧
    (∀ rest due, s.control.startup.running = true → s.clockUnit.deadlines = { due := due, owner := .calGuard } :: rest →
      (due - s.now).toInt ≤ 0 → ∀ edges, s.clockUnit.calibration = .waiting ∧ edges = 0 ∨
        (∃ clocks, s.clockUnit.calibration = .counting edges clocks) →
      exec .calGuardExpiry s = .next (s.become
        ((s.setClock { s.clockUnit with deadlines := rest, calibration := .idle, calFail := true }).notice 8
          ([1] ++ leBytes 2 s.clockUnit.divisor ++ [0, 0, 0, 0] ++ leBytes 1 edges))))

/-- A claim's lease that falls due frees its record, lowers its holder's claim count, and sends CLAIM_LOST with cause EXPIRED
to the terminal's current link when a place is free beyond those that held replies wait for, else counts it lost (R9, R25,
R98, R104); a holder that was never heard has no link, is sent nothing, and nothing is counted lost (log entry 18, DESIGN
CHOICE). -/
def Obligations.LeasesExpire : Prop :=
  ∀ (s : State) (i : Nat) (x : Claim) (due : Time) (rest : List Deadline), s.control.startup.running = true → s.kept = none →
    s.clockUnit.deadlines = { due := due, owner := .claimLease i } :: rest → (due - s.now).toInt ≤ 0 →
    s.claimAt i = some x → (∀ d ∈ rest, d.owner ≠ .claimLease i) →
    let e := s.terminal x.terminal
    let p := (({ s with clockUnit := { s.clockUnit with deadlines := rest } }.setClaim i none).setTerminal x.terminal
      { e with claimCount := e.claimCount - 1 })
    let f : Frame := { kind := 0x03, tag := 0, terminal := BitVec.ofNat 16 x.terminal,
                       body := leBytes 2 x.check ++ leBytes 1 x.scope.code ++ [1] ++ timeBytes x.grantedAt }
    (∀ h, e.heard = some h → within 1 96 x.terminal = true →
      let y := s.link (.tl h.link)
      (s.heldWaiting h.link < 16 - y.outbound.length → exec .claimLeaseExpiry s = .next (s.become
        (p.setLink (.tl h.link) { y with outbound := y.outbound ++ [f], sending := y.sending || y.rdyIn }))) ∧
      (16 - y.outbound.length ≤ s.heldWaiting h.link → exec .claimLeaseExpiry s = .next (s.become
        (p.setLink (.tl h.link) { y with advisoriesLost := saturate 65535 y.advisoriesLost })))) ∧
    (e.heard = none → exec .claimLeaseExpiry s = .next (s.become p))

/-! ### The gateway link (08)

`s.gatewayReady kind f` says that the well-formed gateway frame `f` stands ready at the head of AL in READY. -/

/-- A valid gateway frame moves the AL state: the first one heard while DOWN arms the alive deadline and makes the link
SETTLING, with its settle interval armed, or UP when the interval is 0; a later one rearms the alive deadline. LINK_ALIVE does
nothing else. The settle deadline makes a SETTLING link UP; the alive deadline makes a link that is not DOWN DOWN, its settle
deadline gone. Each change of state is told in a notice (R131, R133). Every other valid gateway frame moves the link in the same way
and is then handled for its own kind, whatever the link state (R131; the order is log entry 37, DEDUCED): an answer that names no
entry in use is counted stale (R129); REVERSAL_REPLY frees its REVERSAL entry (R144); a late AUTH_REPLY marks a DEFERRING tender,
turns the entry into a REVERSAL, or frees it (R140, R143); SUBMIT_REPLY for a slot that is not PENDING under its sequence, its
tender not REVERSED, frees its entry (R145, R159). Where the answer finds more to do, what it does is the same function of the part
after the move as StrayAnswersAreCounted to GatewayErrorsAreTaken state. -/
def Obligations.TheGatewayLinkComesAndGoes : Prop :=
  ∀ (s : State),
    let alive := seconds s.venue.aliveTimeout
    let settle := seconds s.venue.settleInterval
    let changed := fun (p : Part) (new : AlState) (codes : List Byte) => Part.notice { p with alState := new } 5 codes
    (∀ f, s.gatewayReady 0x5C f = true →
      let p := s.dropHead .al
      (s.alState ≠ .down → exec .linkAlive s = .next (s.become (p.rearm .alAlive alive))) ∧
      (s.alState = .down → s.venue.settleInterval = 0 →
        exec .linkAlive s = .next (s.become (changed (p.arm .alAlive alive) .up [2, 0, 1]))) ∧
      (s.alState = .down → s.venue.settleInterval ≠ 0 →
        exec .linkAlive s = .next (s.become (changed ((p.arm .alAlive alive).arm .alSettle settle) .settling [1, 0, 1])))) ∧
    (∀ due rest, s.control.startup.running = true → (due - s.now).toInt ≤ 0 →
      let p := s.setClock { s.clockUnit with deadlines := rest }
      (s.clockUnit.deadlines = { due := due, owner := .alSettle } :: rest → s.alState = .settling →
        exec .alSettleExpiry s = .next (s.become (changed p .up [2, 1, 2]))) ∧
      (s.clockUnit.deadlines = { due := due, owner := .alAlive } :: rest →
        (s.alState = .settling → exec .alAliveExpiry s = .next (s.become (changed (p.cancel .alSettle) .down [0, 1, 3]))) ∧
        (s.alState = .up → exec .alAliveExpiry s = .next (s.become (changed (p.cancel .alSettle) .down [0, 2, 3]))))) ∧
    (∀ (c : Instr) (f : Frame), takesFromGateway c f → s.gatewayReady f.kind f = true →
      let e := fieldAt f.body 0 1
      let q := (s.dropHead .al).alMoved
      (c = .authReply → exec c s = .next (s.become (q.authReply f))) ∧
      (c = .reversalReply → exec c s = .next (s.become (q.reversalReply f))) ∧
      (c = .submitReply → exec c s = .next (s.become (q.submitReply f))) ∧
      (c = .gatewayError → exec c s = .next (s.become (q.gatewayError f))) ∧
      (c ≠ .linkAlive → 48 ≤ e ∨ (s.entryCell e).generation.toNat ≠ fieldAt f.body 1 1 ∨ (s.entryCell e).use = none →
        exec c s = .next (s.become { q with staleReplies := saturate 65535 s.staleReplies })) ∧
      (∀ x, e < 48 → (s.entryCell e).generation.toNat = fieldAt f.body 1 1 → (s.entryCell e).use = some x →
        (∀ code source sequence, c = .reversalReply → x.kind = .reversal code source sequence → x.state ≠ .watch →
          exec c s = .next (s.become (q.freeEntry e))) ∧
        (∀ token eligible, c = .authReply → x.kind = .live token eligible → x.state = .watch →
          (∀ slot d y journalSlot mark, x.tender = some { slot := slot, id := y.id } → s.checkAt slot = some d →
            d.tender y.id = some y → y.state = .deferring journalSlot mark →
            let kept : LateMark := if fieldAt f.body 2 1 = 0 then .confirmed (bytesAt f.body 3 6) else .declined (fieldAt f.body 9 1)
            exec c s = .next (s.become ((q.setCheck slot (some (d.updateTender y.id fun w =>
              { w with state := .deferring journalSlot kept }))).freeEntry e))) ∧
          (x.tender = none ∨ (∃ slot d y, x.tender = some { slot := slot, id := y.id } ∧ s.checkAt slot = some d ∧
              d.tender y.id = some y ∧ (∀ journalSlot mark, y.state ≠ .deferring journalSlot mark) ∧
              ∀ journalSlot, y.state ≠ .deferred journalSlot) →
            (fieldAt f.body 2 1 = 0 → exec c s = .next (s.become
              { (q.setUse e (some { x with
                  kind := .reversal (bytesAt f.body 3 6) .authorization 0
                  state := .queued })).rearm (.auth e (s.entryCell e).generation) (seconds s.venue.lateWindow) with
                sendQueue := s.sendQueue ++ [e] })) ∧
            (fieldAt f.body 2 1 = 1 → exec c s = .next (s.become (q.freeEntry e))))) ∧
        (∀ journalSlot sequence, c = .submitReply → x.kind = .drain journalSlot sequence → x.state ≠ .queued →
          (∀ z, s.journal.slotAt journalSlot = some z → z.sequence ≠ sequence ∨ z.state ≠ .pending) →
          (x.tender = none ∨ ∃ slot d y, x.tender = some { slot := slot, id := y.id } ∧ s.checkAt slot = some d ∧
              d.tender y.id = some y ∧ y.state ≠ .reversed) →
          exec c s = .next (s.become (q.freeEntry e)))))

/-- A gateway frame that is malformed or carries a terminal number is discarded and counted, and moves no timer; an answer
that matches no entry of a kind and state that fit it is counted in STALE_REPLIES (R4, R129, R130). Stated on REVERSAL_REPLY for
the reference, and for every kind of answer for the form. -/
def Obligations.StrayAnswersAreCounted : Prop :=
  ∀ (s : State) (f : Frame), s.control.startup = .ready → s.kept = none → (s.link .al).inbound.head? = some f →
    (∀ c, f.terminal ≠ 0 ∨ f.answerOk = false →
      (f.kind = 0x58 ∧ c = Instr.authReply ∨ f.kind = 0x59 ∧ c = .reversalReply ∨ f.kind = 0x5A ∧ c = .submitReply ∨
        f.kind = 0x5B ∧ c = .gatewayError ∨ f.kind = 0x5C ∧ c = .linkAlive) →
      exec c s = .next (s.become (s.setLink .al { s.link .al with
        inbound := (s.link .al).inbound.tail
        framingErrors := saturate 65535 (s.link .al).framingErrors }))) ∧
    (∀ i, f.kind = 0x59 → f.terminal = 0 → f.answerOk = true → s.alState ≠ .down → i = fieldAt f.body 0 1 →
      (48 ≤ i ∨ (s.entryCell i).generation.toNat ≠ fieldAt f.body 1 1 ∨
        ∀ x, (s.entryCell i).use = some x → (∀ code source sequence, x.kind ≠ .reversal code source sequence) ∨
          x.state = .watch) →
      exec .reversalReply s = .next (s.become
        { (s.dropHead .al).rearm .alAlive (seconds s.venue.aliveTimeout) with
          staleReplies := saturate 65535 s.staleReplies }))

/-- AUTH_REPLY in time, to a SENT LIVE entry, whatever the link state: the link moves (R131), the tender leaves flight APPROVED
with the reply's code or DECLINED with its reason, and the entry is freed (R114, R139). Out of flight, in R116's order: the
terminal's in-flight flag is cleared; APPROVED, a check that is not anchored is anchored, the money enters the share (R42, R63),
the evaluation runs, and every other holder of the share is sent SHARE_CHANGED with cause PAYMENT (R65, R66, R117); the PINNED
claim is ACTIVE with a lease armed afresh, or, its holder SUSPECT or BARRED, freed with CLAIM_LOST (R101); the evaluation runs;
and the outcome, a REPLY with the tag of the PAY_CARD, the approval code or the reason, and the figures that stand then, goes to
the terminal's link or is held (R24, R113). The model's choices: the link moves before the answer's effect (log entry 37,
DEDUCED), holders are told in the order of their records (log entry 14), and a terminal never heard is sent no advisory (log entry
18). -/
def Obligations.AuthorizationsAreAnsweredInTime : Prop :=
  ∀ (s : State) (f : Frame) (e slot i : Nat) (x : Entry) (c : Check) (y : Tender) (z : Claim),
    s.gatewayReady 0x58 f = true → e = fieldAt f.body 0 1 → e < 48 →
    (s.entryCell e).generation.toNat = fieldAt f.body 1 1 → (s.entryCell e).use = some x → x.state = .sent →
    (∃ token eligible, x.kind = .live token eligible) → x.tender = some { slot := slot, id := y.id } →
    s.checkAt slot = some c → c.tender y.id = some y → y.state = .authorizing →
    s.claimAt i = some z → z.terminal = y.terminal → z.check = c.number → z.state = .pinned →
    (∀ j w, s.claimAt j = some w → w.terminal = y.terminal → w.check = c.number → w.state = .pinned → j = i) →
    (fieldAt f.body 2 1 = 0 → exec .authReply s = .next (s.become
      (((s.dropHead .al).alMoved.outOfFlight slot c y (.approved (bytesAt f.body 3 6)) i z).freeEntry e))) ∧
    (fieldAt f.body 2 1 = 1 → exec .authReply s = .next (s.become
      (((s.dropHead .al).alMoved.outOfFlight slot c y (.declined (fieldAt f.body 9 1)) i z).freeEntry e)))

/-- A late AUTH_REPLY to a LIVE entry in WATCH (R140, R143): on a DEFERRING tender it is kept as the late mark and the entry is
freed; on a DEFERRED tender, whose slot is PENDING, an approval makes it APPROVED with the code, a decline makes it LATE_DECLINED
and adds DECLINED_AFTER_ACCEPT, and either way the slot becomes VOID, its token wiped, the deferred total falls by its auth
amount, MARK_VOID is requested, then ERASE of the head where it is VOID and no ERASE of it is outstanding, and the entry is freed
(R118, R157, R158, R160, R165; `slotVoided`); an approval that no tender wants turns the entry into a QUEUED REVERSAL that holds
the code; a decline of such a tender frees the entry. REVERSAL_REPLY frees the REVERSAL entry it matches: it leaves the send queue
and the deadline list, its generation rises, and it joins the tail of the free list (R128, R144). -/
def Obligations.LateAnswersAreKeptOrReversed : Prop :=
  (∀ (s : State) (f : Frame) (e slot : Nat) (x : Entry) (c : Check) (y : Tender),
      s.gatewayReady 0x58 f = true → s.alState ≠ .down → e = fieldAt f.body 0 1 → e < 48 →
      (s.entryCell e).generation.toNat = fieldAt f.body 1 1 → (s.entryCell e).use = some x → x.state = .watch →
      (∃ token eligible, x.kind = .live token eligible) → x.tender = some { slot := slot, id := y.id } →
      s.checkAt slot = some c → c.tender y.id = some y →
      let p := (s.dropHead .al).rearm .alAlive (seconds s.venue.aliveTimeout)
      let code := bytesAt f.body 3 6
      let reversal : Entry := { x with kind := .reversal code .authorization 0, state := .queued }
      (∀ journalSlot mark, y.state = .deferring journalSlot mark →
        let kept : LateMark := if fieldAt f.body 2 1 = 0 then .confirmed code else .declined (fieldAt f.body 9 1)
        exec .authReply s = .next (s.become ((p.setCheck slot (some (c.updateTender y.id fun w =>
          { w with state := .deferring journalSlot kept }))).freeEntry e))) ∧
      (∀ journalSlot z, y.state = .deferred journalSlot → s.journal.slotAt journalSlot = some z → z.state = .pending →
        let voided := fun state : TenderState =>
          (p.setCheck slot (some (c.updateTender y.id fun w => { w with state := state }))).slotVoided journalSlot z
        (fieldAt f.body 2 1 = 0 → exec .authReply s = .next (s.become ((voided (.approved code)).freeEntry e))) ∧
        (fieldAt f.body 2 1 = 1 → exec .authReply s = .next (s.become (((voided .lateDeclined).raise
          { kind := 1, detail := 0, check := x.report.check, table := x.report.table, terminal := x.report.terminal,
            tender := x.report.tender, amount := x.amount, sequence := some z.sequence, slotStamp := z.contents.stamp,
            number := 0, code := none, stamp := 0 }).freeEntry e)))) ∧
      (fieldAt f.body 2 1 = 0 → y.state = .failed ∨ y.state = .reversed →
        exec .authReply s = .next (s.become
          { (p.setUse e (some reversal)).rearm (.auth e (s.entryCell e).generation) (seconds s.venue.lateWindow) with
            sendQueue := s.sendQueue ++ [e] })) ∧
      (fieldAt f.body 2 1 = 1 → y.state = .failed ∨ y.state = .reversed →
        exec .authReply s = .next (s.become (p.freeEntry e)))) ∧
  (∀ (s : State) (f : Frame) (e : Nat) (x : Entry), s.gatewayReady 0x59 f = true → s.alState ≠ .down →
      e = fieldAt f.body 0 1 → e < 48 → (s.entryCell e).generation.toNat = fieldAt f.body 1 1 →
      (s.entryCell e).use = some x → x.state ≠ .watch → (∃ code source sequence, x.kind = .reversal code source sequence) →
      let p := (s.dropHead .al).rearm .alAlive (seconds s.venue.aliveTimeout)
      exec .reversalReply s = .next (s.become { p with
        entries := s.entries.setIfInBounds e { generation := (s.entryCell e).generation + 1, use := none }
        freeList := s.freeList ++ [e]
        sendQueue := s.sendQueue.filter fun j => decide (j ≠ e)
        clockUnit := { p.clockUnit with
          deadlines := p.clockUnit.deadlines.filter fun d => decide (d.owner ≠ .auth e (s.entryCell e).generation) } }))

/-- SUBMIT_REPLY for a DRAIN entry (R118, R143, R145, R157, R159, R160). While its slot is PENDING, the slot becomes VOID, its
token wiped, the deferred total falls by its auth amount, and MARK_VOID is requested, then ERASE of the head where it is VOID and
no ERASE of it is outstanding (R158; `slotVoided`); an approval makes the DEFERRED tender APPROVED with code "000000", as six
bytes 0x30 (log entry 29, DEDUCED); a decline makes it LATE_DECLINED and adds the exception DEFERRED_DECLINED; the entry is freed.
An orphan's reply does the same to the slot, and its decline adds the exception. Once the slot is no longer PENDING under the
entry's sequence and the tender is REVERSED, an approval turns the entry into a QUEUED REVERSAL of source SUBMISSION with code
"000000" and the sequence, and a decline frees it. -/
def Obligations.SubmissionsAreAnswered : Prop :=
  ∀ (s : State) (f : Frame) (e journalSlot : Nat) (x : Entry) (sequence : BitVec 32),
    s.gatewayReady 0x5A f = true → s.alState ≠ .down → e = fieldAt f.body 0 1 → e < 48 →
    (s.entryCell e).generation.toNat = fieldAt f.body 1 1 → (s.entryCell e).use = some x → x.state ≠ .queued →
    x.kind = .drain journalSlot sequence →
    let p := (s.dropHead .al).rearm .alAlive (seconds s.venue.aliveTimeout)
    let approved := fieldAt f.body 2 1 = 0
    let declined := fieldAt f.body 2 1 = 1
    let code : List Byte := [0x30, 0x30, 0x30, 0x30, 0x30, 0x30]
    (∀ z, s.journal.slotAt journalSlot = some z → z.sequence = sequence → z.state = .pending →
      let report : ExceptionEntry :=
        { kind := 2, detail := 0, check := x.report.check, table := x.report.table, terminal := x.report.terminal,
          tender := x.report.tender, amount := x.amount, sequence := some sequence, slotStamp := z.contents.stamp,
          number := 0, code := none, stamp := 0 }
      (∀ slot c y, x.tender = some { slot := slot, id := y.id } → s.checkAt slot = some c → c.tender y.id = some y →
        y.state = .deferred journalSlot →
        let became := fun state : TenderState =>
          (p.setCheck slot (some (c.updateTender y.id fun w => { w with state := state }))).slotVoided journalSlot z
        (approved → exec .submitReply s = .next (s.become ((became (.approved code)).freeEntry e))) ∧
        (declined → exec .submitReply s = .next (s.become (((became .lateDeclined).raise report).freeEntry e)))) ∧
      (x.tender = none →
        (approved → exec .submitReply s = .next (s.become ((p.slotVoided journalSlot z).freeEntry e))) ∧
        (declined → exec .submitReply s = .next (s.become (((p.slotVoided journalSlot z).raise report).freeEntry e))))) ∧
    (∀ slot c y, (∀ z, s.journal.slotAt journalSlot = some z → z.sequence ≠ sequence ∨ z.state ≠ .pending) →
      x.tender = some { slot := slot, id := y.id } → s.checkAt slot = some c → c.tender y.id = some y → y.state = .reversed →
      (approved → exec .submitReply s = .next (s.become
        { (p.setUse e (some { x with kind := .reversal code .submission sequence, state := .queued })).rearm
            (.auth e (s.entryCell e).generation) (seconds s.venue.lateWindow) with
          sendQueue := s.sendQueue ++ [e] })) ∧
      (declined → exec .submitReply s = .next (s.become (p.freeEntry e))))

/-- GATEWAY_ERROR (R132, R141), whatever the link state: the link moves (R131; the order is log entry 37, DEDUCED). A SENT REVERSAL
is QUEUED again at the tail of the send queue, its deadline left as it was. A SENT DRAIN entry is freed, and the drain fault is
taken: a link that is then UP with a settle interval goes back to SETTLING, and a SETTLING one starts its interval again. For a SENT
LIVE entry the offline decision is taken, and the entry is freed (R138): eligible, within the floor limit, under the offline ceiling
with what is deferred already and with a journal slot free, the tender is DEFERRING, with the slot at the tail reserved for it and
its APPEND requested as EveryStepKeepsTheJournal states of a reservation, under the table where the card was taken, which the
entry's report fields keep (R40, R147, R154; log entry 12, DEDUCED); otherwise the tender is FAILED and leaves flight, with its
outcome (R114, R116). -/
def Obligations.GatewayErrorsAreTaken : Prop :=
  ∀ (s : State) (f : Frame) (e : Nat) (x : Entry), s.gatewayReady 0x5B f = true → e = fieldAt f.body 0 1 → e < 48 →
    (s.entryCell e).generation.toNat = fieldAt f.body 1 1 → (s.entryCell e).use = some x → x.state = .sent →
    let p := (s.dropHead .al).alMoved
    let settle := seconds s.venue.settleInterval
    ((∃ code source sequence, x.kind = .reversal code source sequence) →
      exec .gatewayError s = .next (s.become
        { p with
          entries := s.entries.setIfInBounds e { s.entryCell e with use := some { x with state := .queued } }
          sendQueue := s.sendQueue ++ [e] })) ∧
    ((∃ journalSlot sequence, x.kind = .drain journalSlot sequence) →
      (s.venue.settleInterval = 0 → s.alState ≠ .settling → exec .gatewayError s = .next (s.become (p.freeEntry e))) ∧
      (s.alState = .up → s.venue.settleInterval ≠ 0 → exec .gatewayError s = .next (s.become (Part.notice
        { (p.freeEntry e).arm .alSettle settle with alState := .settling } 5 [1, 2, 4]))) ∧
      (s.alState = .settling ∨ s.alState = .down ∧ s.venue.settleInterval ≠ 0 →
        exec .gatewayError s = .next (s.become ((p.freeEntry e).rearm .alSettle settle)))) ∧
    (∀ token eligible slot c y, x.kind = .live token eligible → x.tender = some { slot := slot, id := y.id } →
      s.checkAt slot = some c → c.tender y.id = some y →
      let amount := y.amount + y.payment.tip
      let accepts := eligible = true ∧ amount ≤ s.venue.floorLimit ∧
        s.journal.deferredTotal + amount ≤ s.venue.offlineCeiling ∧ s.journal.occupied < 512
      let contents : SlotContents := {
        check := c.number, table := x.report.table, terminal := y.terminal, tender := y.id, amount := y.amount
        tip := y.payment.tip, stamp := s.now, token := token }
      (accepts → ∃ q : Part, p.reserve contents = (s.journal.tail, q) ∧
        exec .gatewayError s = .next (s.become ((q.setCheck slot (some (c.updateTender y.id fun w =>
          { w with state := .deferring s.journal.tail .none }))).freeEntry e))) ∧
      (∀ i z, ¬accepts → s.claimAt i = some z → z.terminal = y.terminal → z.check = c.number → z.state = .pinned →
        (∀ j w, s.claimAt j = some w → w.terminal = y.terminal → w.check = c.number → w.state = .pinned → j = i) →
        exec .gatewayError s = .next (s.become ((p.outOfFlight slot c y .failed i z).freeEntry e))))

/-- The transmit arbiter (R130, R134, R135): while AL is SETTLING or UP it sends the oldest REVERSAL of the send queue, and
with no REVERSAL there the oldest LIVE; the entry leaves the send queue and becomes SENT, its deadline left as it was, and
its frame enters the AL outbound queue. While AL is DOWN, and while the window is full, it sends nothing. A new submission
(R130, R136): while AL is UP, the send queue empty, the window open, fewer DRAIN entries SENT than the share, 9 entries FREE
and the journal not locked, the PENDING slot with the lowest sequence that no DRAIN entry names is sent: a DRAIN entry, SENT
at once, takes the head of the free list with its timeout armed, and its frame enters the AL outbound queue. With 8 entries
FREE none is started. That a DRAIN entry names a slot by its number alone is log entry 54 (DESIGN CHOICE). -/
def Obligations.TheArbiterGrants : Prop :=
  (∀ (s : State), s.control.startup = .ready → s.kept = none → (s.link .al).outbound.length < 16 →
      let grants := fun (e : Nat) (x : Entry) (f : Frame) =>
        exec .arbiterGrant s = .next (s.become (Part.setLink
          { s with
            entries := s.entries.setIfInBounds e { s.entryCell e with use := some { x with state := .sent } }
            sendQueue := s.sendQueue.filter fun j => decide (j ≠ e) }
          .al { s.link .al with
            outbound := (s.link .al).outbound ++ [f], sending := (s.link .al).sending || (s.link .al).rdyIn }))
      let reference := fun e : Nat => leBytes 2 (e + 256 * (s.entryCell e).generation.toNat)
      let noReversal := fun queue : List Nat =>
        ∀ j ∈ queue, ∀ y code source sequence, (s.entryCell j).use = some y → y.kind ≠ .reversal code source sequence
      (∀ before e after x code source sequence, s.alState ≠ .down → s.entriesSent (fun _ => true) < s.venue.window →
        s.sendQueue = before ++ e :: after → noReversal before → (s.entryCell e).use = some x →
        x.kind = .reversal code source sequence →
        grants e x { kind := 0x51, tag := 0, terminal := 0, body := reference e ++
          [match source with | .authorization => 0 | .submission => 1] ++ code ++ leBytes 4 x.amount ++ leBytes 4 sequence.toNat }) ∧
      (∀ before e after x token eligible, s.alState ≠ .down → s.entriesSent (fun _ => true) < s.venue.window →
        s.sendQueue = before ++ e :: after → noReversal s.sendQueue →
        (∀ j ∈ before, ∀ y token eligible, (s.entryCell j).use = some y → y.kind ≠ .live token eligible) →
        (s.entryCell e).use = some x → x.kind = .live token eligible →
        grants e x { kind := 0x50, tag := 0, terminal := 0, body := reference e ++ leBytes 4 x.amount ++ leBytes 1 token.length
          ++ token }) ∧
      (s.alState = .down ∨ s.venue.window ≤ s.entriesSent (fun _ => true) → exec .arbiterGrant s = .next s)) ∧
  (∀ (s : State) (e slot journalSlot : Nat) (rest : List Nat) (z : Slot) (c : Check) (y : Tender),
      s.control.startup = .ready → s.kept = none → (s.link .al).outbound.length < 16 → s.alState = .up → s.sendQueue = [] →
      s.entriesSent (fun _ => true) < s.venue.window → s.entriesSent EntryKind.isDrain < s.venue.drainShare →
      s.freeList = e :: rest → s.journal.slotAt journalSlot = some z → z.state = .pending → s.drainNames journalSlot = false →
      (∀ j w, s.journal.slotAt j = some w → w.state = .pending → s.drainNames j = false → j ≠ journalSlot →
        0 < (w.sequence - z.sequence).toInt) →
      s.checkAt slot = some c → y ∈ c.tenders → y.state = .deferred journalSlot →
      (∀ i d w, s.checkAt i = some d → w ∈ d.tenders → w.state = .deferred journalSlot → i = slot ∧ w.id = y.id) →
      let entry : Entry :=
        { kind := .drain journalSlot z.sequence, state := .sent, tender := some { slot := slot, id := y.id },
          report := { check := z.contents.check, table := z.contents.table, terminal := z.contents.terminal,
                      tender := z.contents.tender },
          amount := z.contents.amount + z.contents.tip }
      let f : Frame :=
        { kind := 0x52, tag := 0, terminal := 0,
          body := leBytes 2 (e + 256 * (s.entryCell e).generation.toNat) ++ leBytes 4 z.sequence.toNat
            ++ leBytes 4 z.contents.amount ++ leBytes 4 z.contents.tip ++ leBytes 1 z.contents.token.length
            ++ z.contents.token }
      (s.journal.locked = false → 8 ≤ rest.length →
        exec .arbiterGrant s = .next (s.become (Part.setLink
          { s with
            entries := s.entries.setIfInBounds e { s.entryCell e with use := some entry }
            freeList := rest
            clockUnit := { s.clockUnit with
              deadlines :=
                placeDeadline { due := s.now + seconds s.venue.authTimeout, owner := .auth e (s.entryCell e).generation }
                  s.clockUnit.deadlines } }
          .al { s.link .al with
            outbound := (s.link .al).outbound ++ [f], sending := (s.link .al).sending || (s.link .al).rdyIn }))) ∧
      (s.journal.locked = true ∨ rest.length < 8 → exec .arbiterGrant s = .next s))

/-- The expiry of an authorization entry, delivered when its deadline is the first and is due (R137, R138, R142, R144, R146,
R172). WATCH: the entry is freed. DRAIN in SENT: it goes to WATCH with its late window armed, and the drain fault is taken: a link
that is UP with a settle interval goes back to SETTLING, and a SETTLING one starts its interval again. REVERSAL: it is freed with
an exception, REVERSAL_UNCONFIRMED when it was SENT and REVERSAL_UNSENT when it was QUEUED. LIVE: the offline decision is taken,
DEFERRING with a slot reserved or FAILED, and the entry goes to WATCH, its token wiped, when it was SENT, and is freed when it was
QUEUED. The slot names the table where the card was taken, which the entry's report fields keep (R40, R147; log entry 12,
DEDUCED). -/
def Obligations.EntriesExpire : Prop :=
  ∀ (s : State) (e : Nat) (x : Entry) (due : Time) (rest : List Deadline), s.control.startup.running = true →
    s.clockUnit.deadlines = { due := due, owner := .auth e (s.entryCell e).generation } :: rest → (due - s.now).toInt ≤ 0 →
    (s.entryCell e).use = some x → e < 48 →
    let p := s.setClock { s.clockUnit with deadlines := rest }
    let watched := fun kind : EntryKind => EntryCell.mk (s.entryCell e).generation (some { x with kind := kind, state := .watch })
    let freed : EntryCell := { generation := (s.entryCell e).generation + 1, use := none }
    (x.state = .watch → exec .watchExpiry s = .next (s.become (p.freeEntry e))) ∧
    (∀ journalSlot sequence, x.kind = .drain journalSlot sequence → x.state = .sent →
      let q : Part := ({ p with
        entries := s.entries.setIfInBounds e (watched x.kind)
        sendQueue := s.sendQueue.filter fun j => decide (j ≠ e) }).rearm (.auth e (s.entryCell e).generation)
          (seconds s.venue.lateWindow)
      (s.alState = .down ∨ (s.alState = .up ∧ s.venue.settleInterval = 0) →
        exec .drainTimeout s = .next (s.become q)) ∧
      (s.alState = .settling → exec .drainTimeout s = .next (s.become (q.rearm .alSettle (seconds s.venue.settleInterval)))) ∧
      (s.alState = .up → s.venue.settleInterval ≠ 0 → exec .drainTimeout s = .next (s.become (Part.notice
        { q.arm .alSettle (seconds s.venue.settleInterval) with alState := .settling } 5 [1, 2, 4])))) ∧
    (∀ code source sequence, x.kind = .reversal code source sequence →
      exec .reversalExpiry s = .next (s.become ((p.freeEntry e).raise
        { kind := if x.state = .sent then 3 else 4
          detail := match source with | .authorization => 0 | .submission => 1
          check := x.report.check, table := x.report.table, terminal := x.report.terminal, tender := x.report.tender
          amount := x.amount
          sequence := match source with | .authorization => none | .submission => some sequence
          code := some code, number := 0, stamp := 0, slotStamp := 0 }))) ∧
    (∀ token eligible slot c y, x.kind = .live token eligible → x.state ≠ .watch →
      x.tender = some { slot := slot, id := y.id } → s.checkAt slot = some c → c.tender y.id = some y →
      s.journal.tail < 512 →
      let amount := y.amount + y.payment.tip
      let accepts := eligible = true ∧ amount ≤ s.venue.floorLimit ∧
        s.journal.deferredTotal + amount ≤ s.venue.offlineCeiling ∧ s.journal.occupied < 512
      let state := if accepts then TenderState.deferring s.journal.tail .none else .failed
      ∃ u d, exec .liveTimeout s = .next u ∧ u.checkAt slot = some d ∧ d.tender y.id = some { y with state := state } ∧
        u.entryCell e = (if x.state = .sent then watched (.live [] eligible) else freed) ∧
        u.memory = s.memory ∧ u.exceptions = s.exceptions ∧ u.control = s.control ∧
        (accepts → u.port = s.port.request s.now (.append s.journal.tail) ∧
          u.journal.deferredTotal = s.journal.deferredTotal + amount ∧
          u.journal.slotAt s.journal.tail = some {
            state := .reserved, sequence := s.journal.nextSequence
            contents := {
              check := c.number, table := x.report.table, terminal := y.terminal, tender := y.id, amount := y.amount
              tip := y.payment.tip, stamp := s.now, token := token } }) ∧
        (¬accepts → u.port = s.port ∧ u.journal = s.journal ∧ (u.terminal y.terminal).inFlight = false))

/-! ### The memory (09) -/

/-- A journal slot in the memory (R152): where it lies; the layout of the 128 bytes that APPEND writes, with their check value;
what MARK_VOID and ERASE write; when a slot reads as EMPTY, valid or damaged. What APPEND wrote reads back as the slot, PENDING
with its sequence and contents; with the state byte that MARK_VOID writes it reads as VOID with the same. -/
def Obligations.JournalSlotsReadBack : Prop :=
  (∀ (p : Part) (k : Nat), p.writeOf (.markVoid k) = some (0x010000 + 128 * k, [0x00]) ∧
    (∀ head, p.writeOf (.erase k head) = some (0x010000 + 128 * k, List.replicate 128 0xFF)) ∧
    (∀ z, p.journal.slotAt k = some z →
      p.writeOf (.append k) = some (0x010000 + 128 * k, pendingSlotBytes z.sequence z.contents))) ∧
  (∀ (sequence : BitVec 32) (x : SlotContents), x.check < 2 ^ 16 → x.table < 2 ^ 16 → x.terminal < 2 ^ 16 →
    x.tender < 2 ^ 8 → x.amount < 2 ^ 32 → x.tip < 2 ^ 32 → x.token.length ≤ 64 →
    let covered := leBytes 4 sequence.toNat ++ leBytes 2 x.check ++ leBytes 2 x.table ++ leBytes 2 x.terminal
      ++ leBytes 1 x.tender ++ leBytes 4 x.amount ++ leBytes 4 x.tip ++ timeBytes x.stamp ++ leBytes 1 x.token.length
      ++ x.token ++ List.replicate (64 - x.token.length) 0 ++ List.replicate 37 0
    pendingSlotBytes sequence x = 0x3C :: covered ++ leBytes 2 (crc16 covered).toNat ∧
    (pendingSlotBytes sequence x).length = 128 ∧
    classify (pendingSlotBytes sequence x) = .valid true sequence x ∧
    classify (0x00 :: (pendingSlotBytes sequence x).tail) = .valid false sequence x) ∧
  (∀ bytes : List Byte, bytes.length = 128 →
    let agrees := fieldAt bytes 126 2 = (crc16 ((bytes.drop 1).take 125)).toNat
    (classify bytes = .empty ↔ bytes = List.replicate 128 0xFF) ∧
    ((∃ sequence contents, classify bytes = .valid true sequence contents) ↔ bytes.head? = some 0x3C ∧ agrees) ∧
    ((∃ sequence contents, classify bytes = .valid false sequence contents) ↔ bytes.head? = some 0x00 ∧ agrees))

/-- The end of a memory transfer without error (R149, R150, R155, R158, R160). MARK_VOID writes its one byte. APPEND writes the
slot's 128 bytes, its entry becomes PENDING, and the DEFERRING tender that names it becomes DEFERRED and leaves flight; with a
late mark the entry becomes VOID instead, the deferred total falls by its auth amount, MARK_VOID is requested, and the tender
becomes APPROVED with the mark's code, its money in its share, or DECLINED with its reason (R115). ERASE of the head erases its
128 bytes, its entry becomes EMPTY, the occupied count falls and the head advances: to the next entry, whose ERASE is requested
when it is VOID and none is outstanding, or to the tail of a run that is now empty. ERASE of a slot outside the run erases its 128
bytes and changes nothing else (R162). The operation leaves the queue and the oldest waiting one enters it. Where an ERASE of the
head has faulted, the completion of another operation requests it again, if the head is VOID and no ERASE of it is outstanding
(R158; log entry 19, DEDUCED), behind every operation that the completion itself requests (log entry 55, DESIGN CHOICE): shown on
MARK_VOID, on such an ERASE, and on CONSUME_IMAGE with PFAIL asserted, which requests SAVE_IMAGE (R179, R184, R189). A transfer of
an operation that has more to make is followed by the next. SAVE_IMAGE takes its snapshot before its first transfer. The model's
choices: the next transfer begins at once (log entry 43, DEDUCED), and a transfer end before the snapshot does nothing (log entry
5), and a transfer that ends 50 ms or more after it began ends well unless OPERATION_LIMIT came first (log entry 47). -/
def Obligations.TransfersEndWell : Prop :=
  ∀ (s : State) (ops : List MemoryOp), s.control.startup.running = true →
    let finished : Port := { queue := ops ++ s.port.waiting.take 1, waiting := s.port.waiting.drop 1, transfersDone := 0,
                             transferStart := s.now, snapshot := none }
    (∀ j, s.port.queue = .markVoid j :: ops → s.journal.eraseAgain = false →
      exec (.memoryTransferEnd false) s = .next { s with
        memory := s.memory.write (0x010000 + 128 * j) 0x00, port := finished }) ∧
    (∀ j slot z c y, s.port.queue = .append j :: ops → s.journal.eraseAgain = false → s.journal.slotAt j = some z →
      s.checkAt slot = some c → c.tender y.id = some y → y.state = .deferring j .none →
      (∀ i d w, s.checkAt i = some d → w ∈ d.tenders → w.state.inFlight = true → w.state.slot = some j →
        i = slot ∧ w = y) →
      ∃ u d, exec (.memoryTransferEnd false) s = .next u ∧ u.pending = s.pending ∧
        u.memory = s.memory.writeAll (0x010000 + 128 * j) (pendingSlotBytes z.sequence z.contents) ∧
        u.journal = { s.journal with
          mirror := s.journal.mirror.setIfInBounds j (some { z with state := .pending }) } ∧
        u.checkAt slot = some d ∧ d.tender y.id = some { y with state := .deferred j } ∧
        (u.terminal y.terminal).inFlight = false ∧ u.port = finished ∧ u.exceptions = s.exceptions ∧
        u.entries = s.entries ∧ u.control = s.control) ∧
    (∀ j slot z c y mark state, s.port.queue = .append j :: ops → s.journal.eraseAgain = false → j < 512 →
      s.journal.slotAt j = some z → z.state = .reserved → s.checkAt slot = some c → c.tender y.id = some y →
      y.state = .deferring j mark →
      (∃ code, mark = .confirmed code ∧ state = .approved code) ∨ (∃ reason, mark = .declined reason ∧ state = .declined reason) →
      (∀ i d w, s.checkAt i = some d → w ∈ d.tenders → w.state.inFlight = true → w.state.slot = some j →
        i = slot ∧ w = y) →
      ∃ u d, exec (.memoryTransferEnd false) s = .next u ∧ u.pending = s.pending ∧
        u.memory = s.memory.writeAll (0x010000 + 128 * j) (pendingSlotBytes z.sequence z.contents) ∧
        u.journal = { s.journal with
          mirror := s.journal.mirror.setIfInBounds j (some { z with state := .void })
          deferredTotal := s.journal.deferredTotal - (z.contents.amount + z.contents.tip) } ∧
        (MemoryOp.markVoid j ∈ u.port.queue ∨ MemoryOp.markVoid j ∈ u.port.waiting) ∧
        u.checkAt slot = some d ∧ d.tender y.id = some { y with state := state } ∧
        (within 1 16 y.share = true → d.share y.share = (if state.accepted then c.entered y state s.now else c).share y.share) ∧
        (u.terminal y.terminal).inFlight = false ∧ u.exceptions = s.exceptions ∧ u.entries = s.entries ∧
        u.control = s.control) ∧
    (s.port.queue = .erase s.journal.head true :: ops → s.journal.head < 512 →
      let next := (s.journal.head + 1) % 512
      let erased : Port → State := fun port => { s with
        memory := s.memory.writeAll (0x010000 + 128 * s.journal.head) (List.replicate 128 0xFF)
        port := port
        journal := { s.journal with
          mirror := s.journal.mirror.setIfInBounds s.journal.head none
          head := next
          occupied := s.journal.occupied - 1
          highWater := s.journal.highWater && decide (s.venue.highWater ≤ s.journal.occupied - 1)
          eraseAgain := false } }
      (∀ w, s.journal.slotAt next = some w →
        (w.state ≠ .void → exec (.memoryTransferEnd false) s = .next (erased finished)) ∧
        (w.state = .void → MemoryOp.erase next true ∉ ops → MemoryOp.erase next true ∉ s.port.waiting →
          exec (.memoryTransferEnd false) s = .next (erased (finished.request s.now (.erase next true))))) ∧
      ((∀ k, k ≠ s.journal.head → s.journal.slotAt k = none) → s.journal.tail = next →
        exec (.memoryTransferEnd false) s = .next (erased finished))) ∧
    (∀ k, s.port.queue = .erase k false :: ops → s.journal.eraseAgain = false →
      exec (.memoryTransferEnd false) s = .next { s with
        memory := s.memory.writeAll (0x010000 + 128 * k) (List.replicate 128 0xFF), port := finished }) ∧
    (s.journal.eraseAgain = true →
      let again := MemoryOp.erase s.journal.head true
      let due := (∃ w, s.journal.slotAt s.journal.head = some w ∧ w.state = .void) ∧ again ∉ ops ∧ again ∉ s.port.waiting
      let journal := { s.journal with eraseAgain := false }
      (∀ op address bytes, s.port.queue = op :: ops →
        (∃ j, op = .markVoid j ∧ address = 0x010000 + 128 * j ∧ bytes = [0x00]) ∨
          (∃ k, op = .erase k false ∧ address = 0x010000 + 128 * k ∧ bytes = List.replicate 128 0xFF) →
        let memory := s.memory.writeAll address bytes
        (due → exec (.memoryTransferEnd false) s = .next { s with
          memory := memory, journal := journal, port := finished.request s.now again }) ∧
        (¬due → exec (.memoryTransferEnd false) s = .next { s with memory := memory, journal := journal, port := finished })) ∧
      (s.port.queue = .consumeImage :: ops → s.control.startup = .restoring → s.control.unknowns < 256 → s.pfail = true → due →
        exec (.memoryTransferEnd false) s = .next (s.become
          { Part.started { s with memory := s.memory.writeAll 0x020000 [0, 0, 0, 0] } with
            control := { s.control with startup := .saving }
            journal := journal
            port := (finished.request s.now .saveImage).request s.now again }))) ∧
    (s.port.queue = .scan :: ops → s.port.transfersDone < 511 →
      exec (.memoryTransferEnd false) s = .next { s with port := { s.port with
        transfersDone := s.port.transfersDone + 1
        transferStart := s.now } }) ∧
    (s.port.queue = .saveImage :: ops → s.port.snapshot = none →
      exec .saveImageSnapshot s = .next { s with port := { s.port with
        snapshot := some s.image
        transferStart := s.now } } ∧
      exec (.memoryTransferEnd false) s = .next s)

/-- A memory fault (R150, R156, R157, R165): a write that ends with an error, or has not ended 50 ms after it began, leaves the
memory as it was outside the bytes it wrote, takes the operation out of the queue and adds MEMORY_FAULT with the operation's code.
The slot of an APPEND becomes VOID, MARK_VOID is requested for it, and the tender that names it leaves flight: FAILED with no late
mark, and with one APPROVED with the mark's code, its money in its share, or DECLINED with its reason (R115, R117). After the
fault of an ERASE of the head, the entry stays VOID, the head does not advance, and the ERASE is to be requested again at the next
completion of another operation, not at the fault (R158; log entry 19, DEDUCED); its exception carries the slot's sequence, and
that of an ERASE outside the run none (log entry 32, DEDUCED). The model's choices: the limit is reached at a clock difference of
50 (log entry 42, DEDUCED) from the event that made the transfer the next one (log entry 43, DEDUCED); before that it does nothing
(log entry 5); the tender leaves flight after the other actions (log entry 62, DEDUCED). -/
def Obligations.MemoryFaultsAreTaken : Prop :=
  ∀ (s : State) (i : Instr) (ops : List MemoryOp), s.control.startup.running = true → s.exceptions.length < 64 →
    (i = .memoryTransferEnd true ∨ i = .operationLimit ∧ 50 ≤ (s.now - s.port.transferStart).toNat) →
    (∀ j, s.port.queue = .markVoid j :: ops →
      ∃ u e, exec i s = .next u ∧ u.pending = s.pending ∧ u.journal = s.journal ∧ u.exceptions = s.exceptions ++ [e] ∧
        e.kind = 6 ∧ e.detail = 2 ∧ e.sequence = (s.journal.slotAt j).map (fun z => z.sequence) ∧ e.stamp = s.now ∧
        u.port.queue = ops ++ s.port.waiting.take 1 ∧ u.port.waiting = s.port.waiting.drop 1 ∧
        (∀ a, a ≠ 0x010000 + 128 * j → u.memory.read a = s.memory.read a) ∧
        u.checks = s.checks ∧ u.claims = s.claims ∧ u.roster = s.roster ∧ u.entries = s.entries ∧ u.control = s.control) ∧
    (∀ j slot z c y mark state, s.port.queue = .append j :: ops → s.journal.slotAt j = some z → z.state = .reserved →
      s.checkAt slot = some c → c.tender y.id = some y → y.state = .deferring j mark →
      (mark = .none ∧ state = .failed) ∨ (∃ code, mark = .confirmed code ∧ state = .approved code) ∨
        (∃ reason, mark = .declined reason ∧ state = .declined reason) →
      (∀ i d w, s.checkAt i = some d → w ∈ d.tenders → w.state.inFlight = true → w.state.slot = some j →
        i = slot ∧ w = y) →
      ∃ u d e, exec i s = .next u ∧ u.pending = s.pending ∧
        (∀ a, a < 0x010000 + 128 * j ∨ 0x010000 + 128 * j + 128 ≤ a → u.memory.read a = s.memory.read a) ∧
        u.journal.slotAt j = some { z with state := .void } ∧
        u.journal.deferredTotal = s.journal.deferredTotal - (z.contents.amount + z.contents.tip) ∧
        (MemoryOp.markVoid j ∈ u.port.queue ∨ MemoryOp.markVoid j ∈ u.port.waiting) ∧
        u.exceptions = s.exceptions ++ [e] ∧ e.kind = 6 ∧ e.detail = 1 ∧ e.sequence = some z.sequence ∧
        e.check = z.contents.check ∧ e.tender = z.contents.tender ∧ e.amount = z.contents.amount + z.contents.tip ∧
        u.checkAt slot = some d ∧ d.tender y.id = some { y with state := state } ∧
        (within 1 16 y.share = true → d.share y.share = (if state.accepted then c.entered y state s.now else c).share y.share) ∧
        (u.terminal y.terminal).inFlight = false ∧ u.entries = s.entries ∧ u.control = s.control) ∧
    (∀ k ofHead, s.port.queue = .erase k ofHead :: ops →
      ∃ torn n, exec i s = .next (s.become
          { Part.raise { s with memory := torn, openBytes := n, port := s.portAfter ops } { bareException 6 3 with
              sequence := if ofHead then (s.journal.slotAt k).map fun z => z.sequence else none } with
            journal := { s.journal with eraseAgain := s.journal.eraseAgain || ofHead } }) ∧
        ∀ a, a < 0x010000 + 128 * k ∨ 0x010000 + 128 * k + 128 ≤ a → torn.read a = s.memory.read a) ∧
    ((s.now - s.port.transferStart).toNat < 50 → exec .operationLimit s = .next s)
end

