-- ==== Sys2Proof/Laws/Memory.lean ====
section
/-! SUPPORT. Laws/Memory.lean: reading after writing, and the canonical form that every write keeps. -/

namespace Sys2Proof.Machine

theorem Memory.read_of_wfFrom {m : Memory} {least a : Nat} (h : m.wfFrom least = true) (lt : a < least) :
    m.read a = Memory.erased := by
  induction m generalizing least with
  | nil => rfl
  | cons x rest ih =>
    obtain ⟨b, c⟩ := x
    simp only [Memory.wfFrom, Bool.and_eq_true, decide_eq_true_eq] at h
    have : b ≠ a := by omega
    simp only [Memory.read, this, if_false]
    exact ih h.2 (by omega)

theorem Memory.wfFrom_mono {m : Memory} {k least : Nat} (h : m.wfFrom least = true) (le : k ≤ least) :
    m.wfFrom k = true := by
  cases m with
  | nil => rfl
  | cons x rest =>
    obtain ⟨b, c⟩ := x
    simp only [Memory.wfFrom, Bool.and_eq_true, decide_eq_true_eq] at h ⊢
    exact ⟨⟨by omega, h.1.2⟩, h.2⟩

/-- A write keeps the canonical form. -/
theorem Memory.wfFrom_write {m : Memory} {least a : Nat} (b : Byte) (h : m.wfFrom least = true) (le : least ≤ a) :
    (m.write a b).wfFrom least = true := by
  induction m generalizing least with
  | nil =>
    unfold Memory.write
    split <;> simp_all [Memory.wfFrom]
  | cons x rest ih =>
    obtain ⟨k, c⟩ := x
    have h' := h
    simp only [Memory.wfFrom, Bool.and_eq_true, decide_eq_true_eq] at h
    unfold Memory.write
    split
    · split
      · exact h'
      · simp_all [Memory.wfFrom] <;> omega
    · split
      · split
        · exact Memory.wfFrom_mono h.2 (by omega)
        · simp_all [Memory.wfFrom]
      · simp only [Memory.wfFrom, Bool.and_eq_true, decide_eq_true_eq]
        exact ⟨h.1, ih h.2 (by omega)⟩

/-- A write keeps the canonical form of the whole memory. -/
theorem Memory.wf_write {m : Memory} (a : Nat) (b : Byte) (h : m.wf = true) : (m.write a b).wf = true :=
  Memory.wfFrom_write b h (Nat.zero_le a)

/-- Writing a run of bytes keeps the canonical form of the whole memory. -/
theorem Memory.wf_writeAll {m : Memory} (a : Nat) (bytes : List Byte) (h : m.wf = true) :
    (m.writeAll a bytes).wf = true := by
  induction bytes generalizing m a with
  | nil => exact h
  | cons b rest ih => exact ih (a + 1) (Memory.wf_write a b h)

/-- Reading after writing one byte, in a memory in canonical form. -/
theorem Memory.read_write_from {m : Memory} {least : Nat} (a k : Nat) (b : Byte) (h : m.wfFrom least = true) :
    (m.write a b).read k = if k = a then b else m.read k := by
  induction m generalizing least with
  | nil =>
    by_cases e : b = Memory.erased <;> by_cases f : a = k <;> simp_all [Memory.write, Memory.read] <;> omega
  | cons x rest ih =>
    obtain ⟨j, c⟩ := x
    simp only [Memory.wfFrom, Bool.and_eq_true, decide_eq_true_eq] at h
    have gap : ∀ i, i ≤ j → Memory.read rest i = Memory.erased := fun i le => Memory.read_of_wfFrom h.2 (by omega)
    unfold Memory.write
    split
    · split
      · rename_i lt e
        by_cases f : k = a
        · subst f
          have : j ≠ k := by omega
          simp [Memory.read, this, gap k (by omega), e]
        · simp [f]
      · by_cases f : k = a
        · simp [Memory.read, f]
        · simp [Memory.read, f, Ne.symm f]
    · split
      · rename_i ge e
        subst e
        split
        · rename_i f
          by_cases g : k = a
          · subst g
            simp [gap k (by omega), f]
          · simp [Memory.read, g, Ne.symm g]
        · by_cases g : k = a
          · simp [Memory.read, g]
          · simp [Memory.read, g, Ne.symm g]
      · rename_i ge ne
        by_cases f : k = j
        · subst f
          have : ¬k = a := fun e => ne e.symm
          simp [Memory.read, this]
        · simp [Memory.read, Ne.symm f, ih h.2]

/-- Reading after writing one byte: the byte written at its address, and what stood there everywhere else. -/
theorem Memory.read_write {m : Memory} (a k : Nat) (b : Byte) (h : m.wf = true) :
    (m.write a b).read k = if k = a then b else m.read k := Memory.read_write_from a k b h

/-- Writing a run of bytes changes no byte outside it. -/
theorem Memory.read_writeAll_outside {m : Memory} (a k : Nat) (bytes : List Byte) (h : m.wf = true)
    (out : k < a ∨ a + bytes.length ≤ k) : (m.writeAll a bytes).read k = m.read k := by
  induction bytes generalizing m a with
  | nil => rfl
  | cons b rest ih =>
    have : k ≠ a := by simp at out; omega
    simp only [List.length_cons] at out
    rw [Memory.writeAll, ih (a + 1) (Memory.wf_write a b h) (by omega), Memory.read_write a k b h, if_neg this]

/-- Writing a run of bytes puts each byte at its address. -/
theorem Memory.read_writeAll_inside {m : Memory} (a i : Nat) (bytes : List Byte) (h : m.wf = true)
    (lt : i < bytes.length) : (m.writeAll a bytes).read (a + i) = bytes[i] := by
  induction bytes generalizing m a i with
  | nil => simp at lt
  | cons b rest ih =>
    cases i with
    | zero =>
      rw [Memory.writeAll, Memory.read_writeAll_outside (a + 1) (a + 0) rest (Memory.wf_write a b h) (by omega),
        Memory.read_write a (a + 0) b h]
      simp
    | succ i =>
      have := ih (m := m.write a b) (a + 1) i (Memory.wf_write a b h) (by simpa using lt)
      simpa [Memory.writeAll, Nat.add_assoc, Nat.add_comm 1 i] using this

end Sys2Proof.Machine
end

