-- ==== Sys2Proof/Laws/State.lean ====
section
/-! SUPPORT. Laws/State.lean: what each update of the part leaves in each field, and what each reader reads after an update of
another block. Every lemma holds by computation. -/

namespace Sys2Proof.Machine

variable (p : Part)

/-! ### setLink -/

@[simp] theorem Part.setLink_links (l : Link) (x : LinkState) : (p.setLink l x).links = p.links.set l x := rfl
@[simp] theorem Part.setLink_noticeList (l : Link) (x : LinkState) : (p.setLink l x).noticeList = p.noticeList := rfl
@[simp] theorem Part.setLink_noticeSequence (l : Link) (x : LinkState) : (p.setLink l x).noticeSequence = p.noticeSequence := rfl
@[simp] theorem Part.setLink_noticesLost (l : Link) (x : LinkState) : (p.setLink l x).noticesLost = p.noticesLost := rfl
@[simp] theorem Part.setLink_kept (l : Link) (x : LinkState) : (p.setLink l x).kept = p.kept := rfl
@[simp] theorem Part.setLink_roster (l : Link) (x : LinkState) : (p.setLink l x).roster = p.roster := rfl
@[simp] theorem Part.setLink_holdCounter (l : Link) (x : LinkState) : (p.setLink l x).holdCounter = p.holdCounter := rfl
@[simp] theorem Part.setLink_reheard (l : Link) (x : LinkState) : (p.setLink l x).reheard = p.reheard := rfl
@[simp] theorem Part.setLink_checks (l : Link) (x : LinkState) : (p.setLink l x).checks = p.checks := rfl
@[simp] theorem Part.setLink_claims (l : Link) (x : LinkState) : (p.setLink l x).claims = p.claims := rfl
@[simp] theorem Part.setLink_entries (l : Link) (x : LinkState) : (p.setLink l x).entries = p.entries := rfl
@[simp] theorem Part.setLink_freeList (l : Link) (x : LinkState) : (p.setLink l x).freeList = p.freeList := rfl
@[simp] theorem Part.setLink_sendQueue (l : Link) (x : LinkState) : (p.setLink l x).sendQueue = p.sendQueue := rfl
@[simp] theorem Part.setLink_alState (l : Link) (x : LinkState) : (p.setLink l x).alState = p.alState := rfl
@[simp] theorem Part.setLink_staleReplies (l : Link) (x : LinkState) : (p.setLink l x).staleReplies = p.staleReplies := rfl
@[simp] theorem Part.setLink_journal (l : Link) (x : LinkState) : (p.setLink l x).journal = p.journal := rfl
@[simp] theorem Part.setLink_exceptions (l : Link) (x : LinkState) : (p.setLink l x).exceptions = p.exceptions := rfl
@[simp] theorem Part.setLink_exceptionNumber (l : Link) (x : LinkState) : (p.setLink l x).exceptionNumber = p.exceptionNumber := rfl
@[simp] theorem Part.setLink_exceptionsLost (l : Link) (x : LinkState) : (p.setLink l x).exceptionsLost = p.exceptionsLost := rfl
@[simp] theorem Part.setLink_port (l : Link) (x : LinkState) : (p.setLink l x).port = p.port := rfl
@[simp] theorem Part.setLink_memory (l : Link) (x : LinkState) : (p.setLink l x).memory = p.memory := rfl
@[simp] theorem Part.setLink_clockUnit (l : Link) (x : LinkState) : (p.setLink l x).clockUnit = p.clockUnit := rfl
@[simp] theorem Part.setLink_control (l : Link) (x : LinkState) : (p.setLink l x).control = p.control := rfl
@[simp] theorem Part.setLink_pfail (l : Link) (x : LinkState) : (p.setLink l x).pfail = p.pfail := rfl
@[simp] theorem Part.setLink_openBytes (l : Link) (x : LinkState) : (p.setLink l x).openBytes = p.openBytes := rfl
@[simp] theorem Part.setLink_terminal_eq (l : Link) (x : LinkState) (m : Nat) : (p.setLink l x).terminal m = p.terminal m := rfl
@[simp] theorem Part.setLink_checkAt_eq (l : Link) (x : LinkState) (m : Nat) : (p.setLink l x).checkAt m = p.checkAt m := rfl
@[simp] theorem Part.setLink_claimAt_eq (l : Link) (x : LinkState) (m : Nat) : (p.setLink l x).claimAt m = p.claimAt m := rfl
@[simp] theorem Part.setLink_entryCell_eq (l : Link) (x : LinkState) (m : Nat) : (p.setLink l x).entryCell m = p.entryCell m := rfl
@[simp] theorem Part.setLink_findCheck_eq (l : Link) (x : LinkState) (m : Nat) : (p.setLink l x).findCheck m = p.findCheck m := rfl
@[simp] theorem Part.setLink_claimsOn_eq (l : Link) (x : LinkState) (m : Nat) : (p.setLink l x).claimsOn m = p.claimsOn m := rfl
@[simp] theorem Part.setLink_now_eq (l : Link) (x : LinkState) : (p.setLink l x).now = p.now := rfl
@[simp] theorem Part.setLink_venue_eq (l : Link) (x : LinkState) : (p.setLink l x).venue = p.venue := rfl
@[simp] theorem Part.setLink_ownClaims_eq (l : Link) (x : LinkState) (m o : Nat) : (p.setLink l x).ownClaims m o = p.ownClaims m o := rfl
@[simp] theorem Part.setLink_holdsCover_eq (l : Link) (x : LinkState) (a b d : Nat) : (p.setLink l x).holdsCover a b d = p.holdsCover a b d := rfl
@[simp] theorem Part.setLink_holdsWhole_eq (l : Link) (x : LinkState) (a b : Nat) : (p.setLink l x).holdsWhole a b = p.holdsWhole a b := rfl
@[simp] theorem Part.setLink_tendersInUse_eq (l : Link) (x : LinkState) : (p.setLink l x).tendersInUse = p.tendersInUse := rfl
@[simp] theorem Part.setLink_linesInUse_eq (l : Link) (x : LinkState) : (p.setLink l x).linesInUse = p.linesInUse := rfl

/-! ### setTerminal -/

@[simp] theorem Part.setTerminal_links (n : Nat) (e : RosterEntry) : (p.setTerminal n e).links = p.links := rfl
@[simp] theorem Part.setTerminal_noticeList (n : Nat) (e : RosterEntry) : (p.setTerminal n e).noticeList = p.noticeList := rfl
@[simp] theorem Part.setTerminal_noticeSequence (n : Nat) (e : RosterEntry) : (p.setTerminal n e).noticeSequence = p.noticeSequence := rfl
@[simp] theorem Part.setTerminal_noticesLost (n : Nat) (e : RosterEntry) : (p.setTerminal n e).noticesLost = p.noticesLost := rfl
@[simp] theorem Part.setTerminal_kept (n : Nat) (e : RosterEntry) : (p.setTerminal n e).kept = p.kept := rfl
@[simp] theorem Part.setTerminal_roster (n : Nat) (e : RosterEntry) : (p.setTerminal n e).roster = p.roster.setIfInBounds (rosterIndex n) e := rfl
@[simp] theorem Part.setTerminal_holdCounter (n : Nat) (e : RosterEntry) : (p.setTerminal n e).holdCounter = p.holdCounter := rfl
@[simp] theorem Part.setTerminal_reheard (n : Nat) (e : RosterEntry) : (p.setTerminal n e).reheard = p.reheard := rfl
@[simp] theorem Part.setTerminal_checks (n : Nat) (e : RosterEntry) : (p.setTerminal n e).checks = p.checks := rfl
@[simp] theorem Part.setTerminal_claims (n : Nat) (e : RosterEntry) : (p.setTerminal n e).claims = p.claims := rfl
@[simp] theorem Part.setTerminal_entries (n : Nat) (e : RosterEntry) : (p.setTerminal n e).entries = p.entries := rfl
@[simp] theorem Part.setTerminal_freeList (n : Nat) (e : RosterEntry) : (p.setTerminal n e).freeList = p.freeList := rfl
@[simp] theorem Part.setTerminal_sendQueue (n : Nat) (e : RosterEntry) : (p.setTerminal n e).sendQueue = p.sendQueue := rfl
@[simp] theorem Part.setTerminal_alState (n : Nat) (e : RosterEntry) : (p.setTerminal n e).alState = p.alState := rfl
@[simp] theorem Part.setTerminal_staleReplies (n : Nat) (e : RosterEntry) : (p.setTerminal n e).staleReplies = p.staleReplies := rfl
@[simp] theorem Part.setTerminal_journal (n : Nat) (e : RosterEntry) : (p.setTerminal n e).journal = p.journal := rfl
@[simp] theorem Part.setTerminal_exceptions (n : Nat) (e : RosterEntry) : (p.setTerminal n e).exceptions = p.exceptions := rfl
@[simp] theorem Part.setTerminal_exceptionNumber (n : Nat) (e : RosterEntry) : (p.setTerminal n e).exceptionNumber = p.exceptionNumber := rfl
@[simp] theorem Part.setTerminal_exceptionsLost (n : Nat) (e : RosterEntry) : (p.setTerminal n e).exceptionsLost = p.exceptionsLost := rfl
@[simp] theorem Part.setTerminal_port (n : Nat) (e : RosterEntry) : (p.setTerminal n e).port = p.port := rfl
@[simp] theorem Part.setTerminal_memory (n : Nat) (e : RosterEntry) : (p.setTerminal n e).memory = p.memory := rfl
@[simp] theorem Part.setTerminal_clockUnit (n : Nat) (e : RosterEntry) : (p.setTerminal n e).clockUnit = p.clockUnit := rfl
@[simp] theorem Part.setTerminal_control (n : Nat) (e : RosterEntry) : (p.setTerminal n e).control = p.control := rfl
@[simp] theorem Part.setTerminal_pfail (n : Nat) (e : RosterEntry) : (p.setTerminal n e).pfail = p.pfail := rfl
@[simp] theorem Part.setTerminal_openBytes (n : Nat) (e : RosterEntry) : (p.setTerminal n e).openBytes = p.openBytes := rfl
@[simp] theorem Part.setTerminal_link_eq (n : Nat) (e : RosterEntry) (k : Link) : (p.setTerminal n e).link k = p.link k := rfl
@[simp] theorem Part.setTerminal_checkAt_eq (n : Nat) (e : RosterEntry) (m : Nat) : (p.setTerminal n e).checkAt m = p.checkAt m := rfl
@[simp] theorem Part.setTerminal_claimAt_eq (n : Nat) (e : RosterEntry) (m : Nat) : (p.setTerminal n e).claimAt m = p.claimAt m := rfl
@[simp] theorem Part.setTerminal_entryCell_eq (n : Nat) (e : RosterEntry) (m : Nat) : (p.setTerminal n e).entryCell m = p.entryCell m := rfl
@[simp] theorem Part.setTerminal_findCheck_eq (n : Nat) (e : RosterEntry) (m : Nat) : (p.setTerminal n e).findCheck m = p.findCheck m := rfl
@[simp] theorem Part.setTerminal_claimsOn_eq (n : Nat) (e : RosterEntry) (m : Nat) : (p.setTerminal n e).claimsOn m = p.claimsOn m := rfl
@[simp] theorem Part.setTerminal_now_eq (n : Nat) (e : RosterEntry) : (p.setTerminal n e).now = p.now := rfl
@[simp] theorem Part.setTerminal_venue_eq (n : Nat) (e : RosterEntry) : (p.setTerminal n e).venue = p.venue := rfl
@[simp] theorem Part.setTerminal_freePlaces_eq (n : Nat) (e : RosterEntry) (k : Link) : (p.setTerminal n e).freePlaces k = p.freePlaces k := rfl
@[simp] theorem Part.setTerminal_ownClaims_eq (n : Nat) (e : RosterEntry) (m o : Nat) : (p.setTerminal n e).ownClaims m o = p.ownClaims m o := rfl
@[simp] theorem Part.setTerminal_holdsCover_eq (n : Nat) (e : RosterEntry) (a b d : Nat) : (p.setTerminal n e).holdsCover a b d = p.holdsCover a b d := rfl
@[simp] theorem Part.setTerminal_holdsWhole_eq (n : Nat) (e : RosterEntry) (a b : Nat) : (p.setTerminal n e).holdsWhole a b = p.holdsWhole a b := rfl
@[simp] theorem Part.setTerminal_tendersInUse_eq (n : Nat) (e : RosterEntry) : (p.setTerminal n e).tendersInUse = p.tendersInUse := rfl
@[simp] theorem Part.setTerminal_linesInUse_eq (n : Nat) (e : RosterEntry) : (p.setTerminal n e).linesInUse = p.linesInUse := rfl

/-! ### setCheck -/

@[simp] theorem Part.setCheck_links (i : Nat) (c : Option Check) : (p.setCheck i c).links = p.links := rfl
@[simp] theorem Part.setCheck_noticeList (i : Nat) (c : Option Check) : (p.setCheck i c).noticeList = p.noticeList := rfl
@[simp] theorem Part.setCheck_noticeSequence (i : Nat) (c : Option Check) : (p.setCheck i c).noticeSequence = p.noticeSequence := rfl
@[simp] theorem Part.setCheck_noticesLost (i : Nat) (c : Option Check) : (p.setCheck i c).noticesLost = p.noticesLost := rfl
@[simp] theorem Part.setCheck_kept (i : Nat) (c : Option Check) : (p.setCheck i c).kept = p.kept := rfl
@[simp] theorem Part.setCheck_roster (i : Nat) (c : Option Check) : (p.setCheck i c).roster = p.roster := rfl
@[simp] theorem Part.setCheck_holdCounter (i : Nat) (c : Option Check) : (p.setCheck i c).holdCounter = p.holdCounter := rfl
@[simp] theorem Part.setCheck_reheard (i : Nat) (c : Option Check) : (p.setCheck i c).reheard = p.reheard := rfl
@[simp] theorem Part.setCheck_checks (i : Nat) (c : Option Check) : (p.setCheck i c).checks = p.checks.setIfInBounds i c := rfl
@[simp] theorem Part.setCheck_claims (i : Nat) (c : Option Check) : (p.setCheck i c).claims = p.claims := rfl
@[simp] theorem Part.setCheck_entries (i : Nat) (c : Option Check) : (p.setCheck i c).entries = p.entries := rfl
@[simp] theorem Part.setCheck_freeList (i : Nat) (c : Option Check) : (p.setCheck i c).freeList = p.freeList := rfl
@[simp] theorem Part.setCheck_sendQueue (i : Nat) (c : Option Check) : (p.setCheck i c).sendQueue = p.sendQueue := rfl
@[simp] theorem Part.setCheck_alState (i : Nat) (c : Option Check) : (p.setCheck i c).alState = p.alState := rfl
@[simp] theorem Part.setCheck_staleReplies (i : Nat) (c : Option Check) : (p.setCheck i c).staleReplies = p.staleReplies := rfl
@[simp] theorem Part.setCheck_journal (i : Nat) (c : Option Check) : (p.setCheck i c).journal = p.journal := rfl
@[simp] theorem Part.setCheck_exceptions (i : Nat) (c : Option Check) : (p.setCheck i c).exceptions = p.exceptions := rfl
@[simp] theorem Part.setCheck_exceptionNumber (i : Nat) (c : Option Check) : (p.setCheck i c).exceptionNumber = p.exceptionNumber := rfl
@[simp] theorem Part.setCheck_exceptionsLost (i : Nat) (c : Option Check) : (p.setCheck i c).exceptionsLost = p.exceptionsLost := rfl
@[simp] theorem Part.setCheck_port (i : Nat) (c : Option Check) : (p.setCheck i c).port = p.port := rfl
@[simp] theorem Part.setCheck_memory (i : Nat) (c : Option Check) : (p.setCheck i c).memory = p.memory := rfl
@[simp] theorem Part.setCheck_clockUnit (i : Nat) (c : Option Check) : (p.setCheck i c).clockUnit = p.clockUnit := rfl
@[simp] theorem Part.setCheck_control (i : Nat) (c : Option Check) : (p.setCheck i c).control = p.control := rfl
@[simp] theorem Part.setCheck_pfail (i : Nat) (c : Option Check) : (p.setCheck i c).pfail = p.pfail := rfl
@[simp] theorem Part.setCheck_openBytes (i : Nat) (c : Option Check) : (p.setCheck i c).openBytes = p.openBytes := rfl
@[simp] theorem Part.setCheck_link_eq (i : Nat) (c : Option Check) (k : Link) : (p.setCheck i c).link k = p.link k := rfl
@[simp] theorem Part.setCheck_terminal_eq (i : Nat) (c : Option Check) (m : Nat) : (p.setCheck i c).terminal m = p.terminal m := rfl
@[simp] theorem Part.setCheck_claimAt_eq (i : Nat) (c : Option Check) (m : Nat) : (p.setCheck i c).claimAt m = p.claimAt m := rfl
@[simp] theorem Part.setCheck_entryCell_eq (i : Nat) (c : Option Check) (m : Nat) : (p.setCheck i c).entryCell m = p.entryCell m := rfl
@[simp] theorem Part.setCheck_claimsOn_eq (i : Nat) (c : Option Check) (m : Nat) : (p.setCheck i c).claimsOn m = p.claimsOn m := rfl
@[simp] theorem Part.setCheck_now_eq (i : Nat) (c : Option Check) : (p.setCheck i c).now = p.now := rfl
@[simp] theorem Part.setCheck_venue_eq (i : Nat) (c : Option Check) : (p.setCheck i c).venue = p.venue := rfl
@[simp] theorem Part.setCheck_freePlaces_eq (i : Nat) (c : Option Check) (k : Link) : (p.setCheck i c).freePlaces k = p.freePlaces k := rfl
@[simp] theorem Part.setCheck_ownClaims_eq (i : Nat) (c : Option Check) (m o : Nat) : (p.setCheck i c).ownClaims m o = p.ownClaims m o := rfl
@[simp] theorem Part.setCheck_holdsCover_eq (i : Nat) (c : Option Check) (a b d : Nat) : (p.setCheck i c).holdsCover a b d = p.holdsCover a b d := rfl
@[simp] theorem Part.setCheck_holdsWhole_eq (i : Nat) (c : Option Check) (a b : Nat) : (p.setCheck i c).holdsWhole a b = p.holdsWhole a b := rfl

/-! ### setClaim -/

@[simp] theorem Part.setClaim_links (i : Nat) (c : Option Claim) : (p.setClaim i c).links = p.links := rfl
@[simp] theorem Part.setClaim_noticeList (i : Nat) (c : Option Claim) : (p.setClaim i c).noticeList = p.noticeList := rfl
@[simp] theorem Part.setClaim_noticeSequence (i : Nat) (c : Option Claim) : (p.setClaim i c).noticeSequence = p.noticeSequence := rfl
@[simp] theorem Part.setClaim_noticesLost (i : Nat) (c : Option Claim) : (p.setClaim i c).noticesLost = p.noticesLost := rfl
@[simp] theorem Part.setClaim_kept (i : Nat) (c : Option Claim) : (p.setClaim i c).kept = p.kept := rfl
@[simp] theorem Part.setClaim_roster (i : Nat) (c : Option Claim) : (p.setClaim i c).roster = p.roster := rfl
@[simp] theorem Part.setClaim_holdCounter (i : Nat) (c : Option Claim) : (p.setClaim i c).holdCounter = p.holdCounter := rfl
@[simp] theorem Part.setClaim_reheard (i : Nat) (c : Option Claim) : (p.setClaim i c).reheard = p.reheard := rfl
@[simp] theorem Part.setClaim_checks (i : Nat) (c : Option Claim) : (p.setClaim i c).checks = p.checks := rfl
@[simp] theorem Part.setClaim_claims (i : Nat) (c : Option Claim) : (p.setClaim i c).claims = p.claims.setIfInBounds i c := rfl
@[simp] theorem Part.setClaim_entries (i : Nat) (c : Option Claim) : (p.setClaim i c).entries = p.entries := rfl
@[simp] theorem Part.setClaim_freeList (i : Nat) (c : Option Claim) : (p.setClaim i c).freeList = p.freeList := rfl
@[simp] theorem Part.setClaim_sendQueue (i : Nat) (c : Option Claim) : (p.setClaim i c).sendQueue = p.sendQueue := rfl
@[simp] theorem Part.setClaim_alState (i : Nat) (c : Option Claim) : (p.setClaim i c).alState = p.alState := rfl
@[simp] theorem Part.setClaim_staleReplies (i : Nat) (c : Option Claim) : (p.setClaim i c).staleReplies = p.staleReplies := rfl
@[simp] theorem Part.setClaim_journal (i : Nat) (c : Option Claim) : (p.setClaim i c).journal = p.journal := rfl
@[simp] theorem Part.setClaim_exceptions (i : Nat) (c : Option Claim) : (p.setClaim i c).exceptions = p.exceptions := rfl
@[simp] theorem Part.setClaim_exceptionNumber (i : Nat) (c : Option Claim) : (p.setClaim i c).exceptionNumber = p.exceptionNumber := rfl
@[simp] theorem Part.setClaim_exceptionsLost (i : Nat) (c : Option Claim) : (p.setClaim i c).exceptionsLost = p.exceptionsLost := rfl
@[simp] theorem Part.setClaim_port (i : Nat) (c : Option Claim) : (p.setClaim i c).port = p.port := rfl
@[simp] theorem Part.setClaim_memory (i : Nat) (c : Option Claim) : (p.setClaim i c).memory = p.memory := rfl
@[simp] theorem Part.setClaim_clockUnit (i : Nat) (c : Option Claim) : (p.setClaim i c).clockUnit = p.clockUnit := rfl
@[simp] theorem Part.setClaim_control (i : Nat) (c : Option Claim) : (p.setClaim i c).control = p.control := rfl
@[simp] theorem Part.setClaim_pfail (i : Nat) (c : Option Claim) : (p.setClaim i c).pfail = p.pfail := rfl
@[simp] theorem Part.setClaim_openBytes (i : Nat) (c : Option Claim) : (p.setClaim i c).openBytes = p.openBytes := rfl
@[simp] theorem Part.setClaim_link_eq (i : Nat) (c : Option Claim) (k : Link) : (p.setClaim i c).link k = p.link k := rfl
@[simp] theorem Part.setClaim_terminal_eq (i : Nat) (c : Option Claim) (m : Nat) : (p.setClaim i c).terminal m = p.terminal m := rfl
@[simp] theorem Part.setClaim_checkAt_eq (i : Nat) (c : Option Claim) (m : Nat) : (p.setClaim i c).checkAt m = p.checkAt m := rfl
@[simp] theorem Part.setClaim_entryCell_eq (i : Nat) (c : Option Claim) (m : Nat) : (p.setClaim i c).entryCell m = p.entryCell m := rfl
@[simp] theorem Part.setClaim_findCheck_eq (i : Nat) (c : Option Claim) (m : Nat) : (p.setClaim i c).findCheck m = p.findCheck m := rfl
@[simp] theorem Part.setClaim_now_eq (i : Nat) (c : Option Claim) : (p.setClaim i c).now = p.now := rfl
@[simp] theorem Part.setClaim_venue_eq (i : Nat) (c : Option Claim) : (p.setClaim i c).venue = p.venue := rfl
@[simp] theorem Part.setClaim_freePlaces_eq (i : Nat) (c : Option Claim) (k : Link) : (p.setClaim i c).freePlaces k = p.freePlaces k := rfl
@[simp] theorem Part.setClaim_tendersInUse_eq (i : Nat) (c : Option Claim) : (p.setClaim i c).tendersInUse = p.tendersInUse := rfl
@[simp] theorem Part.setClaim_linesInUse_eq (i : Nat) (c : Option Claim) : (p.setClaim i c).linesInUse = p.linesInUse := rfl

/-! ### setEntry -/

@[simp] theorem Part.setEntry_links (i : Nat) (e : EntryCell) : (p.setEntry i e).links = p.links := rfl
@[simp] theorem Part.setEntry_noticeList (i : Nat) (e : EntryCell) : (p.setEntry i e).noticeList = p.noticeList := rfl
@[simp] theorem Part.setEntry_noticeSequence (i : Nat) (e : EntryCell) : (p.setEntry i e).noticeSequence = p.noticeSequence := rfl
@[simp] theorem Part.setEntry_noticesLost (i : Nat) (e : EntryCell) : (p.setEntry i e).noticesLost = p.noticesLost := rfl
@[simp] theorem Part.setEntry_kept (i : Nat) (e : EntryCell) : (p.setEntry i e).kept = p.kept := rfl
@[simp] theorem Part.setEntry_roster (i : Nat) (e : EntryCell) : (p.setEntry i e).roster = p.roster := rfl
@[simp] theorem Part.setEntry_holdCounter (i : Nat) (e : EntryCell) : (p.setEntry i e).holdCounter = p.holdCounter := rfl
@[simp] theorem Part.setEntry_reheard (i : Nat) (e : EntryCell) : (p.setEntry i e).reheard = p.reheard := rfl
@[simp] theorem Part.setEntry_checks (i : Nat) (e : EntryCell) : (p.setEntry i e).checks = p.checks := rfl
@[simp] theorem Part.setEntry_claims (i : Nat) (e : EntryCell) : (p.setEntry i e).claims = p.claims := rfl
@[simp] theorem Part.setEntry_entries (i : Nat) (e : EntryCell) : (p.setEntry i e).entries = p.entries.setIfInBounds i e := rfl
@[simp] theorem Part.setEntry_freeList (i : Nat) (e : EntryCell) : (p.setEntry i e).freeList = p.freeList := rfl
@[simp] theorem Part.setEntry_sendQueue (i : Nat) (e : EntryCell) : (p.setEntry i e).sendQueue = p.sendQueue := rfl
@[simp] theorem Part.setEntry_alState (i : Nat) (e : EntryCell) : (p.setEntry i e).alState = p.alState := rfl
@[simp] theorem Part.setEntry_staleReplies (i : Nat) (e : EntryCell) : (p.setEntry i e).staleReplies = p.staleReplies := rfl
@[simp] theorem Part.setEntry_journal (i : Nat) (e : EntryCell) : (p.setEntry i e).journal = p.journal := rfl
@[simp] theorem Part.setEntry_exceptions (i : Nat) (e : EntryCell) : (p.setEntry i e).exceptions = p.exceptions := rfl
@[simp] theorem Part.setEntry_exceptionNumber (i : Nat) (e : EntryCell) : (p.setEntry i e).exceptionNumber = p.exceptionNumber := rfl
@[simp] theorem Part.setEntry_exceptionsLost (i : Nat) (e : EntryCell) : (p.setEntry i e).exceptionsLost = p.exceptionsLost := rfl
@[simp] theorem Part.setEntry_port (i : Nat) (e : EntryCell) : (p.setEntry i e).port = p.port := rfl
@[simp] theorem Part.setEntry_memory (i : Nat) (e : EntryCell) : (p.setEntry i e).memory = p.memory := rfl
@[simp] theorem Part.setEntry_clockUnit (i : Nat) (e : EntryCell) : (p.setEntry i e).clockUnit = p.clockUnit := rfl
@[simp] theorem Part.setEntry_control (i : Nat) (e : EntryCell) : (p.setEntry i e).control = p.control := rfl
@[simp] theorem Part.setEntry_pfail (i : Nat) (e : EntryCell) : (p.setEntry i e).pfail = p.pfail := rfl
@[simp] theorem Part.setEntry_openBytes (i : Nat) (e : EntryCell) : (p.setEntry i e).openBytes = p.openBytes := rfl
@[simp] theorem Part.setEntry_link_eq (i : Nat) (e : EntryCell) (k : Link) : (p.setEntry i e).link k = p.link k := rfl
@[simp] theorem Part.setEntry_terminal_eq (i : Nat) (e : EntryCell) (m : Nat) : (p.setEntry i e).terminal m = p.terminal m := rfl
@[simp] theorem Part.setEntry_checkAt_eq (i : Nat) (e : EntryCell) (m : Nat) : (p.setEntry i e).checkAt m = p.checkAt m := rfl
@[simp] theorem Part.setEntry_claimAt_eq (i : Nat) (e : EntryCell) (m : Nat) : (p.setEntry i e).claimAt m = p.claimAt m := rfl
@[simp] theorem Part.setEntry_findCheck_eq (i : Nat) (e : EntryCell) (m : Nat) : (p.setEntry i e).findCheck m = p.findCheck m := rfl
@[simp] theorem Part.setEntry_claimsOn_eq (i : Nat) (e : EntryCell) (m : Nat) : (p.setEntry i e).claimsOn m = p.claimsOn m := rfl
@[simp] theorem Part.setEntry_now_eq (i : Nat) (e : EntryCell) : (p.setEntry i e).now = p.now := rfl
@[simp] theorem Part.setEntry_venue_eq (i : Nat) (e : EntryCell) : (p.setEntry i e).venue = p.venue := rfl
@[simp] theorem Part.setEntry_freePlaces_eq (i : Nat) (e : EntryCell) (k : Link) : (p.setEntry i e).freePlaces k = p.freePlaces k := rfl
@[simp] theorem Part.setEntry_ownClaims_eq (i : Nat) (e : EntryCell) (m o : Nat) : (p.setEntry i e).ownClaims m o = p.ownClaims m o := rfl
@[simp] theorem Part.setEntry_holdsCover_eq (i : Nat) (e : EntryCell) (a b d : Nat) : (p.setEntry i e).holdsCover a b d = p.holdsCover a b d := rfl
@[simp] theorem Part.setEntry_holdsWhole_eq (i : Nat) (e : EntryCell) (a b : Nat) : (p.setEntry i e).holdsWhole a b = p.holdsWhole a b := rfl
@[simp] theorem Part.setEntry_tendersInUse_eq (i : Nat) (e : EntryCell) : (p.setEntry i e).tendersInUse = p.tendersInUse := rfl
@[simp] theorem Part.setEntry_linesInUse_eq (i : Nat) (e : EntryCell) : (p.setEntry i e).linesInUse = p.linesInUse := rfl

/-! ### setJournal -/

@[simp] theorem Part.setJournal_links (j : Journal) : (p.setJournal j).links = p.links := rfl
@[simp] theorem Part.setJournal_noticeList (j : Journal) : (p.setJournal j).noticeList = p.noticeList := rfl
@[simp] theorem Part.setJournal_noticeSequence (j : Journal) : (p.setJournal j).noticeSequence = p.noticeSequence := rfl
@[simp] theorem Part.setJournal_noticesLost (j : Journal) : (p.setJournal j).noticesLost = p.noticesLost := rfl
@[simp] theorem Part.setJournal_kept (j : Journal) : (p.setJournal j).kept = p.kept := rfl
@[simp] theorem Part.setJournal_roster (j : Journal) : (p.setJournal j).roster = p.roster := rfl
@[simp] theorem Part.setJournal_holdCounter (j : Journal) : (p.setJournal j).holdCounter = p.holdCounter := rfl
@[simp] theorem Part.setJournal_reheard (j : Journal) : (p.setJournal j).reheard = p.reheard := rfl
@[simp] theorem Part.setJournal_checks (j : Journal) : (p.setJournal j).checks = p.checks := rfl
@[simp] theorem Part.setJournal_claims (j : Journal) : (p.setJournal j).claims = p.claims := rfl
@[simp] theorem Part.setJournal_entries (j : Journal) : (p.setJournal j).entries = p.entries := rfl
@[simp] theorem Part.setJournal_freeList (j : Journal) : (p.setJournal j).freeList = p.freeList := rfl
@[simp] theorem Part.setJournal_sendQueue (j : Journal) : (p.setJournal j).sendQueue = p.sendQueue := rfl
@[simp] theorem Part.setJournal_alState (j : Journal) : (p.setJournal j).alState = p.alState := rfl
@[simp] theorem Part.setJournal_staleReplies (j : Journal) : (p.setJournal j).staleReplies = p.staleReplies := rfl
@[simp] theorem Part.setJournal_journal (j : Journal) : (p.setJournal j).journal = j := rfl
@[simp] theorem Part.setJournal_exceptions (j : Journal) : (p.setJournal j).exceptions = p.exceptions := rfl
@[simp] theorem Part.setJournal_exceptionNumber (j : Journal) : (p.setJournal j).exceptionNumber = p.exceptionNumber := rfl
@[simp] theorem Part.setJournal_exceptionsLost (j : Journal) : (p.setJournal j).exceptionsLost = p.exceptionsLost := rfl
@[simp] theorem Part.setJournal_port (j : Journal) : (p.setJournal j).port = p.port := rfl
@[simp] theorem Part.setJournal_memory (j : Journal) : (p.setJournal j).memory = p.memory := rfl
@[simp] theorem Part.setJournal_clockUnit (j : Journal) : (p.setJournal j).clockUnit = p.clockUnit := rfl
@[simp] theorem Part.setJournal_control (j : Journal) : (p.setJournal j).control = p.control := rfl
@[simp] theorem Part.setJournal_pfail (j : Journal) : (p.setJournal j).pfail = p.pfail := rfl
@[simp] theorem Part.setJournal_openBytes (j : Journal) : (p.setJournal j).openBytes = p.openBytes := rfl
@[simp] theorem Part.setJournal_link_eq (j : Journal) (k : Link) : (p.setJournal j).link k = p.link k := rfl
@[simp] theorem Part.setJournal_terminal_eq (j : Journal) (m : Nat) : (p.setJournal j).terminal m = p.terminal m := rfl
@[simp] theorem Part.setJournal_checkAt_eq (j : Journal) (m : Nat) : (p.setJournal j).checkAt m = p.checkAt m := rfl
@[simp] theorem Part.setJournal_claimAt_eq (j : Journal) (m : Nat) : (p.setJournal j).claimAt m = p.claimAt m := rfl
@[simp] theorem Part.setJournal_entryCell_eq (j : Journal) (m : Nat) : (p.setJournal j).entryCell m = p.entryCell m := rfl
@[simp] theorem Part.setJournal_findCheck_eq (j : Journal) (m : Nat) : (p.setJournal j).findCheck m = p.findCheck m := rfl
@[simp] theorem Part.setJournal_claimsOn_eq (j : Journal) (m : Nat) : (p.setJournal j).claimsOn m = p.claimsOn m := rfl
@[simp] theorem Part.setJournal_now_eq (j : Journal) : (p.setJournal j).now = p.now := rfl
@[simp] theorem Part.setJournal_venue_eq (j : Journal) : (p.setJournal j).venue = p.venue := rfl
@[simp] theorem Part.setJournal_freePlaces_eq (j : Journal) (k : Link) : (p.setJournal j).freePlaces k = p.freePlaces k := rfl
@[simp] theorem Part.setJournal_ownClaims_eq (j : Journal) (m o : Nat) : (p.setJournal j).ownClaims m o = p.ownClaims m o := rfl
@[simp] theorem Part.setJournal_holdsCover_eq (j : Journal) (a b d : Nat) : (p.setJournal j).holdsCover a b d = p.holdsCover a b d := rfl
@[simp] theorem Part.setJournal_holdsWhole_eq (j : Journal) (a b : Nat) : (p.setJournal j).holdsWhole a b = p.holdsWhole a b := rfl
@[simp] theorem Part.setJournal_tendersInUse_eq (j : Journal) : (p.setJournal j).tendersInUse = p.tendersInUse := rfl
@[simp] theorem Part.setJournal_linesInUse_eq (j : Journal) : (p.setJournal j).linesInUse = p.linesInUse := rfl

/-! ### setPort -/

@[simp] theorem Part.setPort_links (q : Port) : (p.setPort q).links = p.links := rfl
@[simp] theorem Part.setPort_noticeList (q : Port) : (p.setPort q).noticeList = p.noticeList := rfl
@[simp] theorem Part.setPort_noticeSequence (q : Port) : (p.setPort q).noticeSequence = p.noticeSequence := rfl
@[simp] theorem Part.setPort_noticesLost (q : Port) : (p.setPort q).noticesLost = p.noticesLost := rfl
@[simp] theorem Part.setPort_kept (q : Port) : (p.setPort q).kept = p.kept := rfl
@[simp] theorem Part.setPort_roster (q : Port) : (p.setPort q).roster = p.roster := rfl
@[simp] theorem Part.setPort_holdCounter (q : Port) : (p.setPort q).holdCounter = p.holdCounter := rfl
@[simp] theorem Part.setPort_reheard (q : Port) : (p.setPort q).reheard = p.reheard := rfl
@[simp] theorem Part.setPort_checks (q : Port) : (p.setPort q).checks = p.checks := rfl
@[simp] theorem Part.setPort_claims (q : Port) : (p.setPort q).claims = p.claims := rfl
@[simp] theorem Part.setPort_entries (q : Port) : (p.setPort q).entries = p.entries := rfl
@[simp] theorem Part.setPort_freeList (q : Port) : (p.setPort q).freeList = p.freeList := rfl
@[simp] theorem Part.setPort_sendQueue (q : Port) : (p.setPort q).sendQueue = p.sendQueue := rfl
@[simp] theorem Part.setPort_alState (q : Port) : (p.setPort q).alState = p.alState := rfl
@[simp] theorem Part.setPort_staleReplies (q : Port) : (p.setPort q).staleReplies = p.staleReplies := rfl
@[simp] theorem Part.setPort_journal (q : Port) : (p.setPort q).journal = p.journal := rfl
@[simp] theorem Part.setPort_exceptions (q : Port) : (p.setPort q).exceptions = p.exceptions := rfl
@[simp] theorem Part.setPort_exceptionNumber (q : Port) : (p.setPort q).exceptionNumber = p.exceptionNumber := rfl
@[simp] theorem Part.setPort_exceptionsLost (q : Port) : (p.setPort q).exceptionsLost = p.exceptionsLost := rfl
@[simp] theorem Part.setPort_port (q : Port) : (p.setPort q).port = q := rfl
@[simp] theorem Part.setPort_memory (q : Port) : (p.setPort q).memory = p.memory := rfl
@[simp] theorem Part.setPort_clockUnit (q : Port) : (p.setPort q).clockUnit = p.clockUnit := rfl
@[simp] theorem Part.setPort_control (q : Port) : (p.setPort q).control = p.control := rfl
@[simp] theorem Part.setPort_pfail (q : Port) : (p.setPort q).pfail = p.pfail := rfl
@[simp] theorem Part.setPort_openBytes (q : Port) : (p.setPort q).openBytes = p.openBytes := rfl
@[simp] theorem Part.setPort_link_eq (q : Port) (k : Link) : (p.setPort q).link k = p.link k := rfl
@[simp] theorem Part.setPort_terminal_eq (q : Port) (m : Nat) : (p.setPort q).terminal m = p.terminal m := rfl
@[simp] theorem Part.setPort_checkAt_eq (q : Port) (m : Nat) : (p.setPort q).checkAt m = p.checkAt m := rfl
@[simp] theorem Part.setPort_claimAt_eq (q : Port) (m : Nat) : (p.setPort q).claimAt m = p.claimAt m := rfl
@[simp] theorem Part.setPort_entryCell_eq (q : Port) (m : Nat) : (p.setPort q).entryCell m = p.entryCell m := rfl
@[simp] theorem Part.setPort_findCheck_eq (q : Port) (m : Nat) : (p.setPort q).findCheck m = p.findCheck m := rfl
@[simp] theorem Part.setPort_claimsOn_eq (q : Port) (m : Nat) : (p.setPort q).claimsOn m = p.claimsOn m := rfl
@[simp] theorem Part.setPort_now_eq (q : Port) : (p.setPort q).now = p.now := rfl
@[simp] theorem Part.setPort_venue_eq (q : Port) : (p.setPort q).venue = p.venue := rfl
@[simp] theorem Part.setPort_freePlaces_eq (q : Port) (k : Link) : (p.setPort q).freePlaces k = p.freePlaces k := rfl
@[simp] theorem Part.setPort_ownClaims_eq (q : Port) (m o : Nat) : (p.setPort q).ownClaims m o = p.ownClaims m o := rfl
@[simp] theorem Part.setPort_holdsCover_eq (q : Port) (a b d : Nat) : (p.setPort q).holdsCover a b d = p.holdsCover a b d := rfl
@[simp] theorem Part.setPort_holdsWhole_eq (q : Port) (a b : Nat) : (p.setPort q).holdsWhole a b = p.holdsWhole a b := rfl
@[simp] theorem Part.setPort_tendersInUse_eq (q : Port) : (p.setPort q).tendersInUse = p.tendersInUse := rfl
@[simp] theorem Part.setPort_linesInUse_eq (q : Port) : (p.setPort q).linesInUse = p.linesInUse := rfl

/-! ### setClock -/

@[simp] theorem Part.setClock_links (u : ClockUnit) : (p.setClock u).links = p.links := rfl
@[simp] theorem Part.setClock_noticeList (u : ClockUnit) : (p.setClock u).noticeList = p.noticeList := rfl
@[simp] theorem Part.setClock_noticeSequence (u : ClockUnit) : (p.setClock u).noticeSequence = p.noticeSequence := rfl
@[simp] theorem Part.setClock_noticesLost (u : ClockUnit) : (p.setClock u).noticesLost = p.noticesLost := rfl
@[simp] theorem Part.setClock_kept (u : ClockUnit) : (p.setClock u).kept = p.kept := rfl
@[simp] theorem Part.setClock_roster (u : ClockUnit) : (p.setClock u).roster = p.roster := rfl
@[simp] theorem Part.setClock_holdCounter (u : ClockUnit) : (p.setClock u).holdCounter = p.holdCounter := rfl
@[simp] theorem Part.setClock_reheard (u : ClockUnit) : (p.setClock u).reheard = p.reheard := rfl
@[simp] theorem Part.setClock_checks (u : ClockUnit) : (p.setClock u).checks = p.checks := rfl
@[simp] theorem Part.setClock_claims (u : ClockUnit) : (p.setClock u).claims = p.claims := rfl
@[simp] theorem Part.setClock_entries (u : ClockUnit) : (p.setClock u).entries = p.entries := rfl
@[simp] theorem Part.setClock_freeList (u : ClockUnit) : (p.setClock u).freeList = p.freeList := rfl
@[simp] theorem Part.setClock_sendQueue (u : ClockUnit) : (p.setClock u).sendQueue = p.sendQueue := rfl
@[simp] theorem Part.setClock_alState (u : ClockUnit) : (p.setClock u).alState = p.alState := rfl
@[simp] theorem Part.setClock_staleReplies (u : ClockUnit) : (p.setClock u).staleReplies = p.staleReplies := rfl
@[simp] theorem Part.setClock_journal (u : ClockUnit) : (p.setClock u).journal = p.journal := rfl
@[simp] theorem Part.setClock_exceptions (u : ClockUnit) : (p.setClock u).exceptions = p.exceptions := rfl
@[simp] theorem Part.setClock_exceptionNumber (u : ClockUnit) : (p.setClock u).exceptionNumber = p.exceptionNumber := rfl
@[simp] theorem Part.setClock_exceptionsLost (u : ClockUnit) : (p.setClock u).exceptionsLost = p.exceptionsLost := rfl
@[simp] theorem Part.setClock_port (u : ClockUnit) : (p.setClock u).port = p.port := rfl
@[simp] theorem Part.setClock_memory (u : ClockUnit) : (p.setClock u).memory = p.memory := rfl
@[simp] theorem Part.setClock_clockUnit (u : ClockUnit) : (p.setClock u).clockUnit = u := rfl
@[simp] theorem Part.setClock_control (u : ClockUnit) : (p.setClock u).control = p.control := rfl
@[simp] theorem Part.setClock_pfail (u : ClockUnit) : (p.setClock u).pfail = p.pfail := rfl
@[simp] theorem Part.setClock_openBytes (u : ClockUnit) : (p.setClock u).openBytes = p.openBytes := rfl
@[simp] theorem Part.setClock_link_eq (u : ClockUnit) (k : Link) : (p.setClock u).link k = p.link k := rfl
@[simp] theorem Part.setClock_terminal_eq (u : ClockUnit) (m : Nat) : (p.setClock u).terminal m = p.terminal m := rfl
@[simp] theorem Part.setClock_checkAt_eq (u : ClockUnit) (m : Nat) : (p.setClock u).checkAt m = p.checkAt m := rfl
@[simp] theorem Part.setClock_claimAt_eq (u : ClockUnit) (m : Nat) : (p.setClock u).claimAt m = p.claimAt m := rfl
@[simp] theorem Part.setClock_entryCell_eq (u : ClockUnit) (m : Nat) : (p.setClock u).entryCell m = p.entryCell m := rfl
@[simp] theorem Part.setClock_findCheck_eq (u : ClockUnit) (m : Nat) : (p.setClock u).findCheck m = p.findCheck m := rfl
@[simp] theorem Part.setClock_claimsOn_eq (u : ClockUnit) (m : Nat) : (p.setClock u).claimsOn m = p.claimsOn m := rfl
@[simp] theorem Part.setClock_venue_eq (u : ClockUnit) : (p.setClock u).venue = p.venue := rfl
@[simp] theorem Part.setClock_freePlaces_eq (u : ClockUnit) (k : Link) : (p.setClock u).freePlaces k = p.freePlaces k := rfl
@[simp] theorem Part.setClock_ownClaims_eq (u : ClockUnit) (m o : Nat) : (p.setClock u).ownClaims m o = p.ownClaims m o := rfl
@[simp] theorem Part.setClock_holdsCover_eq (u : ClockUnit) (a b d : Nat) : (p.setClock u).holdsCover a b d = p.holdsCover a b d := rfl
@[simp] theorem Part.setClock_holdsWhole_eq (u : ClockUnit) (a b : Nat) : (p.setClock u).holdsWhole a b = p.holdsWhole a b := rfl
@[simp] theorem Part.setClock_tendersInUse_eq (u : ClockUnit) : (p.setClock u).tendersInUse = p.tendersInUse := rfl
@[simp] theorem Part.setClock_linesInUse_eq (u : ClockUnit) : (p.setClock u).linesInUse = p.linesInUse := rfl

/-! ### setControl -/

@[simp] theorem Part.setControl_links (c : Control) : (p.setControl c).links = p.links := rfl
@[simp] theorem Part.setControl_noticeList (c : Control) : (p.setControl c).noticeList = p.noticeList := rfl
@[simp] theorem Part.setControl_noticeSequence (c : Control) : (p.setControl c).noticeSequence = p.noticeSequence := rfl
@[simp] theorem Part.setControl_noticesLost (c : Control) : (p.setControl c).noticesLost = p.noticesLost := rfl
@[simp] theorem Part.setControl_kept (c : Control) : (p.setControl c).kept = p.kept := rfl
@[simp] theorem Part.setControl_roster (c : Control) : (p.setControl c).roster = p.roster := rfl
@[simp] theorem Part.setControl_holdCounter (c : Control) : (p.setControl c).holdCounter = p.holdCounter := rfl
@[simp] theorem Part.setControl_reheard (c : Control) : (p.setControl c).reheard = p.reheard := rfl
@[simp] theorem Part.setControl_checks (c : Control) : (p.setControl c).checks = p.checks := rfl
@[simp] theorem Part.setControl_claims (c : Control) : (p.setControl c).claims = p.claims := rfl
@[simp] theorem Part.setControl_entries (c : Control) : (p.setControl c).entries = p.entries := rfl
@[simp] theorem Part.setControl_freeList (c : Control) : (p.setControl c).freeList = p.freeList := rfl
@[simp] theorem Part.setControl_sendQueue (c : Control) : (p.setControl c).sendQueue = p.sendQueue := rfl
@[simp] theorem Part.setControl_alState (c : Control) : (p.setControl c).alState = p.alState := rfl
@[simp] theorem Part.setControl_staleReplies (c : Control) : (p.setControl c).staleReplies = p.staleReplies := rfl
@[simp] theorem Part.setControl_journal (c : Control) : (p.setControl c).journal = p.journal := rfl
@[simp] theorem Part.setControl_exceptions (c : Control) : (p.setControl c).exceptions = p.exceptions := rfl
@[simp] theorem Part.setControl_exceptionNumber (c : Control) : (p.setControl c).exceptionNumber = p.exceptionNumber := rfl
@[simp] theorem Part.setControl_exceptionsLost (c : Control) : (p.setControl c).exceptionsLost = p.exceptionsLost := rfl
@[simp] theorem Part.setControl_port (c : Control) : (p.setControl c).port = p.port := rfl
@[simp] theorem Part.setControl_memory (c : Control) : (p.setControl c).memory = p.memory := rfl
@[simp] theorem Part.setControl_clockUnit (c : Control) : (p.setControl c).clockUnit = p.clockUnit := rfl
@[simp] theorem Part.setControl_control (c : Control) : (p.setControl c).control = c := rfl
@[simp] theorem Part.setControl_pfail (c : Control) : (p.setControl c).pfail = p.pfail := rfl
@[simp] theorem Part.setControl_openBytes (c : Control) : (p.setControl c).openBytes = p.openBytes := rfl
@[simp] theorem Part.setControl_link_eq (c : Control) (k : Link) : (p.setControl c).link k = p.link k := rfl
@[simp] theorem Part.setControl_terminal_eq (c : Control) (m : Nat) : (p.setControl c).terminal m = p.terminal m := rfl
@[simp] theorem Part.setControl_checkAt_eq (c : Control) (m : Nat) : (p.setControl c).checkAt m = p.checkAt m := rfl
@[simp] theorem Part.setControl_claimAt_eq (c : Control) (m : Nat) : (p.setControl c).claimAt m = p.claimAt m := rfl
@[simp] theorem Part.setControl_entryCell_eq (c : Control) (m : Nat) : (p.setControl c).entryCell m = p.entryCell m := rfl
@[simp] theorem Part.setControl_findCheck_eq (c : Control) (m : Nat) : (p.setControl c).findCheck m = p.findCheck m := rfl
@[simp] theorem Part.setControl_claimsOn_eq (c : Control) (m : Nat) : (p.setControl c).claimsOn m = p.claimsOn m := rfl
@[simp] theorem Part.setControl_now_eq (c : Control) : (p.setControl c).now = p.now := rfl
@[simp] theorem Part.setControl_freePlaces_eq (c : Control) (k : Link) : (p.setControl c).freePlaces k = p.freePlaces k := rfl
@[simp] theorem Part.setControl_ownClaims_eq (c : Control) (m o : Nat) : (p.setControl c).ownClaims m o = p.ownClaims m o := rfl
@[simp] theorem Part.setControl_holdsCover_eq (c : Control) (a b d : Nat) : (p.setControl c).holdsCover a b d = p.holdsCover a b d := rfl
@[simp] theorem Part.setControl_holdsWhole_eq (c : Control) (a b : Nat) : (p.setControl c).holdsWhole a b = p.holdsWhole a b := rfl
@[simp] theorem Part.setControl_tendersInUse_eq (c : Control) : (p.setControl c).tendersInUse = p.tendersInUse := rfl
@[simp] theorem Part.setControl_linesInUse_eq (c : Control) : (p.setControl c).linesInUse = p.linesInUse := rfl

/-! ### The kept place -/

@[simp] theorem Part.releasePlace_links : p.releasePlace.links = p.links := rfl
@[simp] theorem Part.releasePlace_noticeList : p.releasePlace.noticeList = p.noticeList := rfl
@[simp] theorem Part.releasePlace_noticeSequence : p.releasePlace.noticeSequence = p.noticeSequence := rfl
@[simp] theorem Part.releasePlace_noticesLost : p.releasePlace.noticesLost = p.noticesLost := rfl
@[simp] theorem Part.releasePlace_kept : p.releasePlace.kept = none := rfl
@[simp] theorem Part.releasePlace_roster : p.releasePlace.roster = p.roster := rfl
@[simp] theorem Part.releasePlace_holdCounter : p.releasePlace.holdCounter = p.holdCounter := rfl
@[simp] theorem Part.releasePlace_reheard : p.releasePlace.reheard = p.reheard := rfl
@[simp] theorem Part.releasePlace_checks : p.releasePlace.checks = p.checks := rfl
@[simp] theorem Part.releasePlace_claims : p.releasePlace.claims = p.claims := rfl
@[simp] theorem Part.releasePlace_entries : p.releasePlace.entries = p.entries := rfl
@[simp] theorem Part.releasePlace_freeList : p.releasePlace.freeList = p.freeList := rfl
@[simp] theorem Part.releasePlace_sendQueue : p.releasePlace.sendQueue = p.sendQueue := rfl
@[simp] theorem Part.releasePlace_alState : p.releasePlace.alState = p.alState := rfl
@[simp] theorem Part.releasePlace_staleReplies : p.releasePlace.staleReplies = p.staleReplies := rfl
@[simp] theorem Part.releasePlace_journal : p.releasePlace.journal = p.journal := rfl
@[simp] theorem Part.releasePlace_exceptions : p.releasePlace.exceptions = p.exceptions := rfl
@[simp] theorem Part.releasePlace_exceptionNumber : p.releasePlace.exceptionNumber = p.exceptionNumber := rfl
@[simp] theorem Part.releasePlace_exceptionsLost : p.releasePlace.exceptionsLost = p.exceptionsLost := rfl
@[simp] theorem Part.releasePlace_port : p.releasePlace.port = p.port := rfl
@[simp] theorem Part.releasePlace_memory : p.releasePlace.memory = p.memory := rfl
@[simp] theorem Part.releasePlace_clockUnit : p.releasePlace.clockUnit = p.clockUnit := rfl
@[simp] theorem Part.releasePlace_control : p.releasePlace.control = p.control := rfl
@[simp] theorem Part.releasePlace_pfail : p.releasePlace.pfail = p.pfail := rfl
@[simp] theorem Part.releasePlace_openBytes : p.releasePlace.openBytes = p.openBytes := rfl

end Sys2Proof.Machine
end

