-- ==== Sys2Proof/Laws/Ops.lean ====
section
/-! SUPPORT. Laws/Ops.lean: for each shared operation, once, everything it can do: which fields it writes, and with what. -/

namespace Sys2Proof.Machine

variable (p : Part)

/-! ### Outbound queues (R6, R10) -/

theorem LinkState.enqueue_full {x : LinkState} (f : Frame) (h : 16 ≤ x.outbound.length) : x.enqueue f = x := by
  unfold LinkState.enqueue
  exact if_neg (by simpa [Config.outboundPlaces] using h)

theorem LinkState.enqueue_cases (x : LinkState) (f : Frame) :
    (x.outbound.length < 16 ∧
      x.enqueue f = { x with outbound := x.outbound ++ [f], sending := x.sending || x.rdyIn }) ∨
    (16 ≤ x.outbound.length ∧ x.enqueue f = x) := by
  by_cases h : x.outbound.length < 16
  · exact .inl ⟨h, if_pos h⟩
  · exact .inr ⟨Nat.le_of_not_lt h, if_neg h⟩

/-- No frame makes an outbound queue longer than its 16 places. -/
theorem LinkState.enqueue_length_le {x : LinkState} (f : Frame) (h : x.outbound.length ≤ 16) :
    (x.enqueue f).outbound.length ≤ 16 := by
  obtain ⟨lt, e⟩ | ⟨_, e⟩ := x.enqueue_cases f
  · rw [e]; simp; omega
  · rw [e]; exact h

theorem Part.enqueue_eq (l : Link) (f : Frame) : p.enqueue l f = { p with links := p.links.set l ((p.link l).enqueue f) } := rfl

/-! ### Notices (R11) -/

/-- A numbered notice goes to the OL queue, to the list, or is counted lost. -/
theorem Part.placeNotice_cases (f : Frame) :
    (p.noticeList = [] ∧ 2 ≤ p.freePlaces .ol ∧ p.placeNotice f = p.enqueue .ol f) ∨
    (¬(p.noticeList = [] ∧ 2 ≤ p.freePlaces .ol) ∧ p.noticeList.length < 32 ∧
      p.placeNotice f = { p with noticeList := p.noticeList ++ [f] }) ∨
    (¬(p.noticeList = [] ∧ 2 ≤ p.freePlaces .ol) ∧ 32 ≤ p.noticeList.length ∧
      p.placeNotice f = { p with noticesLost := saturate 255 p.noticesLost }) := by
  unfold Part.placeNotice
  by_cases h : p.noticeList = [] ∧ 2 ≤ p.freePlaces .ol
  · exact .inl ⟨h.1, h.2, if_pos (by simpa using h)⟩
  · have n : ¬((p.noticeList.isEmpty && decide (2 ≤ p.freePlaces .ol)) = true) := by simpa using h
    by_cases r : p.noticeList.length < 32
    · exact .inr (.inl ⟨h, r, by rw [if_neg n]; exact if_pos r⟩)
    · exact .inr (.inr ⟨h, Nat.le_of_not_lt r, by rw [if_neg n]; exact if_neg r⟩)

/-- A notice writes the links, the notice list and its two counters, and nothing else. -/
theorem Part.notice_eq (kind : Nat) (fields : List Byte) :
    p.notice kind fields = { p with
      links := (p.notice kind fields).links
      noticeList := (p.notice kind fields).noticeList
      noticeSequence := p.noticeSequence + 1
      noticesLost := (p.notice kind fields).noticesLost } := by
  unfold Part.notice
  obtain ⟨_, _, e⟩ | ⟨_, _, e⟩ | ⟨_, _, e⟩ :=
    Part.placeNotice_cases { p with noticeSequence := p.noticeSequence + 1 } (p.noticeFrame kind fields) <;> rw [e] <;> rfl

@[simp] theorem Part.notice_checks (k : Nat) (f : List Byte) : (p.notice k f).checks = p.checks := by rw [p.notice_eq k f]
@[simp] theorem Part.notice_claims (k : Nat) (f : List Byte) : (p.notice k f).claims = p.claims := by rw [p.notice_eq k f]
@[simp] theorem Part.notice_roster (k : Nat) (f : List Byte) : (p.notice k f).roster = p.roster := by rw [p.notice_eq k f]
@[simp] theorem Part.notice_entries (k : Nat) (f : List Byte) : (p.notice k f).entries = p.entries := by rw [p.notice_eq k f]
@[simp] theorem Part.notice_freeList (k : Nat) (f : List Byte) : (p.notice k f).freeList = p.freeList := by rw [p.notice_eq k f]
@[simp] theorem Part.notice_sendQueue (k : Nat) (f : List Byte) : (p.notice k f).sendQueue = p.sendQueue := by
  rw [p.notice_eq k f]
@[simp] theorem Part.notice_alState (k : Nat) (f : List Byte) : (p.notice k f).alState = p.alState := by rw [p.notice_eq k f]
@[simp] theorem Part.notice_journal (k : Nat) (f : List Byte) : (p.notice k f).journal = p.journal := by rw [p.notice_eq k f]
@[simp] theorem Part.notice_exceptions (k : Nat) (f : List Byte) : (p.notice k f).exceptions = p.exceptions := by
  rw [p.notice_eq k f]
@[simp] theorem Part.notice_exceptionNumber (k : Nat) (f : List Byte) :
    (p.notice k f).exceptionNumber = p.exceptionNumber := by rw [p.notice_eq k f]
@[simp] theorem Part.notice_exceptionsLost (k : Nat) (f : List Byte) : (p.notice k f).exceptionsLost = p.exceptionsLost := by
  rw [p.notice_eq k f]
@[simp] theorem Part.notice_port (k : Nat) (f : List Byte) : (p.notice k f).port = p.port := by rw [p.notice_eq k f]
@[simp] theorem Part.notice_memory (k : Nat) (f : List Byte) : (p.notice k f).memory = p.memory := by rw [p.notice_eq k f]
@[simp] theorem Part.notice_clockUnit (k : Nat) (f : List Byte) : (p.notice k f).clockUnit = p.clockUnit := by
  rw [p.notice_eq k f]
@[simp] theorem Part.notice_control (k : Nat) (f : List Byte) : (p.notice k f).control = p.control := by rw [p.notice_eq k f]
@[simp] theorem Part.notice_kept (k : Nat) (f : List Byte) : (p.notice k f).kept = p.kept := by rw [p.notice_eq k f]

/-! ### Advisories and late replies (R8, R9, R24) -/

/-- An advisory writes the links alone. -/
theorem Part.advise_eq (n : Nat) (kind : Byte) (body : List Byte) :
    p.advise n kind body = { p with links := (p.advise n kind body).links } := by
  unfold Part.advise
  split
  · rfl
  · split <;> rfl

/-- A late reply writes the links, or the roster and the hold counter. -/
theorem Part.lateReply_eq (n : Nat) (f : Frame) :
    p.lateReply n f = { p with
      links := (p.lateReply n f).links, roster := (p.lateReply n f).roster, holdCounter := (p.lateReply n f).holdCounter } := by
  unfold Part.lateReply
  split
  · rfl
  · split <;> rfl

/-! ### Exceptions (R164) -/

/-- An exception takes the next number; it joins the list or is counted lost; then its notice is produced. -/
theorem Part.raise_cases (e : ExceptionEntry) :
    (p.exceptions.length < 64 ∧ ∃ fields, p.raise e = Part.notice { p with
      exceptionNumber := p.exceptionNumber + 1
      exceptions := p.exceptions ++ [{ e with number := p.exceptionNumber, stamp := p.now }] } 4 fields) ∨
    (64 ≤ p.exceptions.length ∧ ∃ fields, p.raise e = Part.notice { p with
      exceptionNumber := p.exceptionNumber + 1
      exceptionsLost := saturate 255 p.exceptionsLost } 4 fields) := by
  unfold Part.raise
  by_cases h : p.exceptions.length < 64
  · rw [show decide (p.exceptions.length < Config.exceptionPlaces) = true from decide_eq_true h]
    exact .inl ⟨h, _, rfl⟩
  · rw [show decide (p.exceptions.length < Config.exceptionPlaces) = false from decide_eq_false h]
    exact .inr ⟨Nat.le_of_not_lt h, _, rfl⟩

/-! ### Deadlines and entries (R128, R171) -/

theorem Part.cancel_eq (owner : Owner) : p.cancel owner = { p with clockUnit := { p.clockUnit with
    deadlines := p.clockUnit.deadlines.filter fun d => decide (d.owner ≠ owner) } } := rfl

theorem Part.arm_eq (owner : Owner) (interval : Time) : p.arm owner interval = { p with clockUnit := { p.clockUnit with
    deadlines := placeDeadline { due := p.now + interval, owner := owner } p.clockUnit.deadlines } } := rfl

/-- Taking an entry writes the entry at the head of the free list, the two index lists and the deadlines. -/
theorem Part.takeEntry_cons {i : Nat} {rest : List Nat} (x : Entry) (interval : Time) (h : p.freeList = i :: rest) :
    p.takeEntry x interval = { p with
      entries := p.entries.setIfInBounds i { p.entryCell i with use := some x }
      freeList := rest
      sendQueue := if x.state = .queued then p.sendQueue ++ [i] else p.sendQueue
      clockUnit := { p.clockUnit with
        deadlines := placeDeadline { due := p.now + interval, owner := p.entryOwner i } p.clockUnit.deadlines } } := by
  unfold Part.takeEntry
  rw [h]
  by_cases q : x.state = .queued <;> simp only [q, if_true, if_false] <;> rfl

/-- Freeing an entry writes that entry, the two index lists and the deadlines. -/
theorem Part.freeEntry_eq (i : Nat) : p.freeEntry i = { p with
    entries := p.entries.setIfInBounds i { generation := (p.entryCell i).generation + 1, use := none }
    freeList := p.freeList ++ [i]
    sendQueue := p.sendQueue.filter fun j => decide (j ≠ i)
    clockUnit := { p.clockUnit with
      deadlines := p.clockUnit.deadlines.filter fun d => decide (d.owner ≠ p.entryOwner i) } } := rfl

/-! ### The Memory Port (R149) -/

theorem Part.request_eq (op : MemoryOp) : p.request op = { p with port := p.port.request p.now op } := rfl

/-- A request joins the queue, or the waiting line behind a full queue; nothing else of either changes. -/
theorem Port.request_cases (q : Port) (now : Time) (op : MemoryOp) :
    (q.queue = [] ∧ q.request now op = { q with queue := [op], transfersDone := 0, transferStart := now }) ∨
    (q.queue ≠ [] ∧ q.queue.length < 16 ∧ q.request now op = { q with queue := q.queue ++ [op] }) ∨
    (16 ≤ q.queue.length ∧ q.request now op = { q with waiting := q.waiting ++ [op] }) := by
  unfold Port.request
  by_cases e : q.queue = []
  · exact .inl ⟨e, if_pos (by simp [e])⟩
  · have n : ¬(q.queue.isEmpty = true) := by simpa using e
    by_cases r : q.queue.length < 16
    · exact .inr (.inl ⟨e, r, by rw [if_neg n]; exact if_pos r⟩)
    · exact .inr (.inr ⟨Nat.le_of_not_lt r, by rw [if_neg n]; exact if_neg r⟩)

/-- A memory transfer that writes keeps the canonical form of the memory. -/
theorem Part.writeTransfer_wf (op : MemoryOp) (h : p.memory.wf = true) : (p.writeTransfer op).memory.wf = true := by
  unfold Part.writeTransfer
  split
  · exact Memory.wf_writeAll _ _ h
  · exact h

/-- A torn transfer keeps it too. -/
theorem Part.tearTransfer_wf (op : MemoryOp) (h : p.memory.wf = true) : (p.tearTransfer op).memory.wf = true := by
  unfold Part.tearTransfer
  split
  · simp only [Part.openRun]
    split
    · exact Memory.wf_writeAll _ _ (Memory.wf_writeAll _ _ h)
    · exact Memory.wf_writeAll _ _ h
  · exact h

/-- The reset state's memory has the canonical form. -/
theorem State.reset_memory_wf : State.reset.memory.wf = true := rfl

/-! ### Checks whose dues no longer follow the lines (R36, R62) -/

/-- A check is frozen when it is anchored or stands under FIXED. -/
theorem Check.frozen_iff (c : Check) : c.frozen = true ↔ c.anchored = true ∨ c.plan.kind = .fixed := by
  simp [Check.frozen]

/-- A check that is neither anchored nor under FIXED is not frozen. -/
theorem Check.frozen_eq_false_iff (c : Check) : c.frozen = false ↔ c.anchored = false ∧ c.plan.kind ≠ .fixed := by
  simp [Check.frozen]

end Sys2Proof.Machine
end

