-- ==== Sys2Proof/Laws/Tables.lean ====
section
/-! SUPPORT. Laws/Tables.lean: reading a table after writing it, and what the searches of a table find. -/

namespace Sys2Proof.Machine

/-! ### Links -/

@[simp] theorem Links.get_set_same (ls : Links) (l : Link) (x : LinkState) : (ls.set l x).get l = x := by
  cases l with
  | tl t => cases t <;> rfl
  | ol => rfl
  | al => rfl

theorem Links.get_set_other (ls : Links) {l k : Link} (x : LinkState) (ne : l ≠ k) : (ls.set l x).get k = ls.get k := by
  cases l with
  | tl t => cases t <;> (cases k with | tl u => cases u <;> simp_all [Links.set, Links.get] | ol => rfl | al => rfl)
  | ol => cases k with | tl u => cases u <;> rfl | ol => simp at ne | al => rfl
  | al => cases k with | tl u => cases u <;> rfl | ol => rfl | al => simp at ne

@[simp] theorem Links.set_set (ls : Links) (l : Link) (x y : LinkState) : (ls.set l x).set l y = ls.set l y := by
  cases l with
  | tl t => cases t <;> rfl
  | ol => rfl
  | al => rfl

@[simp] theorem Links.set_get (ls : Links) (l : Link) : ls.set l (ls.get l) = ls := by
  cases l with
  | tl t => cases t <;> rfl
  | ol => rfl
  | al => rfl

@[simp] theorem Part.link_setLink_same (p : Part) (l : Link) (x : LinkState) : (p.setLink l x).link l = x := by
  simp [Part.link]

theorem Part.link_setLink_other (p : Part) {l k : Link} (x : LinkState) (ne : l ≠ k) : (p.setLink l x).link k = p.link k := by
  simp [Part.link, Links.get_set_other _ x ne]

@[simp] theorem Part.link_setLink_tl_ol (p : Part) (t : Tl) (x : LinkState) : (p.setLink (.tl t) x).link .ol = p.link .ol :=
  Part.link_setLink_other p x (by simp)

@[simp] theorem Part.link_setLink_tl_al (p : Part) (t : Tl) (x : LinkState) : (p.setLink (.tl t) x).link .al = p.link .al :=
  Part.link_setLink_other p x (by simp)

@[simp] theorem Part.link_setLink_ol_tl (p : Part) (t : Tl) (x : LinkState) : (p.setLink .ol x).link (.tl t) = p.link (.tl t) :=
  Part.link_setLink_other p x (by simp)

@[simp] theorem Part.link_setLink_ol_al (p : Part) (x : LinkState) : (p.setLink .ol x).link .al = p.link .al :=
  Part.link_setLink_other p x (by simp)

@[simp] theorem Part.link_setLink_al_tl (p : Part) (t : Tl) (x : LinkState) : (p.setLink .al x).link (.tl t) = p.link (.tl t) :=
  Part.link_setLink_other p x (by simp)

@[simp] theorem Part.link_setLink_al_ol (p : Part) (x : LinkState) : (p.setLink .al x).link .ol = p.link .ol :=
  Part.link_setLink_other p x (by simp)

@[simp] theorem Part.setLink_setLink (p : Part) (l : Link) (x y : LinkState) :
    (p.setLink l x).setLink l y = p.setLink l y := by simp [Part.setLink]

@[simp] theorem Part.setLink_link (p : Part) (l : Link) : p.setLink l (p.link l) = p := by
  simp [Part.setLink, Part.link]

/-! ### The roster -/

/-- A terminal of 1 to 96 has a place in the roster, and no other number has. -/
theorem rosterIndex_lt {n : Nat} (h : within 1 96 n = true) : rosterIndex n < 96 := by
  simp [within] at h
  unfold rosterIndex
  split <;> omega

theorem Part.terminal_setTerminal_same (p : Part) {n : Nat} (e : RosterEntry) (h : within 1 96 n = true) :
    (p.setTerminal n e).terminal n = e := by
  simp [Part.terminal, rosterIndex_lt h]

theorem Part.terminal_setTerminal_other (p : Part) {n m : Nat} (e : RosterEntry) (hn : within 1 96 n = true)
    (hm : within 1 96 m = true) (ne : n ≠ m) : (p.setTerminal n e).terminal m = p.terminal m := by
  have : rosterIndex n ≠ rosterIndex m := by
    simp [within] at hn hm
    unfold rosterIndex
    split <;> split <;> omega
  simp [Part.terminal, this]

@[simp] theorem Part.setTerminal_setTerminal (p : Part) (n : Nat) (e g : RosterEntry) :
    (p.setTerminal n e).setTerminal n g = p.setTerminal n g := by
  simp [Part.setTerminal, Vector.setIfInBounds_setIfInBounds]

/-! ### Records -/

theorem recordAt_setIfInBounds_same {α : Type} {n : Nat} (v : Vector (Option α) n) {i : Nat} (x : Option α) (h : i < n) :
    recordAt (v.setIfInBounds i x) i = x := by
  simp [recordAt, h]

theorem recordAt_setIfInBounds_other {α : Type} {n : Nat} (v : Vector (Option α) n) {i j : Nat} (x : Option α) (h : i ≠ j) :
    recordAt (v.setIfInBounds i x) j = recordAt v j := by
  simp [recordAt, h]

/-- An empty table has no record. -/
@[simp] theorem recordAt_tabulate_none {α : Type} (n i : Nat) : recordAt (tabulate n fun _ => (none : Option α)) i = none := by
  simp only [recordAt, tabulate, Vector.getElem?_mk, List.getElem?_toArray, List.getElem?_map]
  cases (List.range n)[i]? <;> rfl

/-- A record in use lies inside its table. -/
theorem recordAt_lt {α : Type} {n : Nat} {v : Vector (Option α) n} {i : Nat} {a : α} (h : recordAt v i = some a) : i < n := by
  refine Decidable.byContradiction fun ge => ?_
  simp [recordAt, Vector.getElem?_eq_none (Nat.le_of_not_lt ge)] at h

theorem mem_inUseFrom {α : Type} (l : List (Option α)) (k i : Nat) (a : α) :
    (i, a) ∈ inUseFrom k l ↔ k ≤ i ∧ l[i - k]? = some (some a) := by
  induction l generalizing k with
  | nil => simp [inUseFrom]
  | cons x rest ih =>
    by_cases e : i = k
    · subst e
      have no : ¬i + 1 ≤ i := by omega
      cases x <;> simp [inUseFrom, ih, no, eq_comm]
    · cases x <;> simp [inUseFrom, ih, e] <;>
      · constructor
        · rintro ⟨h1, h2⟩
          refine ⟨by omega, ?_⟩
          have : i - k = (i - (k + 1)) + 1 := by omega
          rw [this]
          simpa using h2
        · rintro ⟨h1, h2⟩
          refine ⟨by omega, ?_⟩
          have : i - k = (i - (k + 1)) + 1 := by omega
          rw [this] at h2
          simpa using h2

/-- The records in use are those that a read of the table finds. -/
theorem mem_inUse {α : Type} {n : Nat} (v : Vector (Option α) n) (i : Nat) (a : α) :
    (i, a) ∈ inUse v ↔ recordAt v i = some a := by
  simp [inUse, mem_inUseFrom, recordAt, Option.join_eq_some_iff]

theorem inUseFrom_map_snd {α : Type} (l : List (Option α)) (k : Nat) : (inUseFrom k l).map Prod.snd = l.filterMap id := by
  induction l generalizing k with
  | nil => rfl
  | cons x rest ih => cases x <;> simp [inUseFrom, ih]

/-- The records in use, in order, are what reads of the whole table find. -/
theorem inUse_map_snd {α : Type} {n : Nat} (v : Vector (Option α) n) :
    (inUse v).map Prod.snd = (List.range n).filterMap (recordAt v) := by
  have reads : v.toList = (List.range n).map fun i => recordAt v i := by
    apply List.ext_getElem
    · simp
    · intro i h _
      simp at h
      simp [recordAt, h]
  rw [inUse, inUseFrom_map_snd, reads, List.filterMap_map]
  rfl

/-- What holds of every record in use holds of every record that a read finds. -/
theorem forall_recordAt {α : Type} {n : Nat} {v : Vector (Option α) n} {holds : Nat → α → Prop}
    (h : ∀ x ∈ inUse v, holds x.1 x.2) (i : Nat) (a : α) (e : recordAt v i = some a) : holds i a :=
  h (i, a) ((mem_inUse v i a).mpr e)

theorem firstFreeFrom_spec {α : Type} (l : List (Option α)) (k i : Nat) (h : firstFreeFrom k l = some i) :
    k ≤ i ∧ i < k + l.length ∧ l[i - k]? = some none ∧ ∀ j, k ≤ j → j < i → ∃ a, l[j - k]? = some (some a) := by
  induction l generalizing k with
  | nil => simp [firstFreeFrom] at h
  | cons x rest ih =>
    cases x with
    | none =>
      simp [firstFreeFrom] at h
      subst h
      refine ⟨Nat.le_refl _, by simp, by simp, fun j a b => by omega⟩
    | some y =>
      simp only [firstFreeFrom] at h
      obtain ⟨h1, h2, h3, h4⟩ := ih (k + 1) h
      refine ⟨by omega, by simp; omega, ?_, ?_⟩
      · have : i - k = (i - (k + 1)) + 1 := by omega
        rw [this]
        simpa using h3
      · intro j hj lt
        by_cases e : j = k
        · subst e
          exact ⟨y, by simp⟩
        · obtain ⟨a, ha⟩ := h4 j (by omega) lt
          refine ⟨a, ?_⟩
          have : j - k = (j - (k + 1)) + 1 := by omega
          rw [this]
          simpa using ha

/-- The lowest free record is free, and every record below it is in use. -/
theorem firstFree_spec {α : Type} {n : Nat} {v : Vector (Option α) n} {i : Nat} (h : firstFree v = some i) :
    i < n ∧ recordAt v i = none ∧ ∀ j, j < i → ∃ a, recordAt v j = some a := by
  obtain ⟨_, h2, h3, h4⟩ := firstFreeFrom_spec _ _ _ h
  simp at h2 h3 h4
  refine ⟨h2, by simp [recordAt, h3], fun j lt => ?_⟩
  obtain ⟨a, ha⟩ := h4 j lt
  exact ⟨a, by simp [recordAt, ha]⟩

/-! ### Checks -/

/-- What a search by check number finds is in use in its slot and has the number (R27). -/
theorem Part.findCheck_spec {p : Part} {number slot : Nat} {c : Check} (h : p.findCheck number = some (slot, c)) :
    p.checkAt slot = some c ∧ c.number = number := by
  refine ⟨(mem_inUse p.checks slot c).mp (List.mem_of_find?_eq_some h), ?_⟩
  simpa using List.find?_some h

theorem Part.checkAt_setCheck_same (p : Part) {i : Nat} (c : Option Check) (h : i < 160) : (p.setCheck i c).checkAt i = c :=
  recordAt_setIfInBounds_same _ _ h

theorem Part.checkAt_setCheck_other (p : Part) {i j : Nat} (c : Option Check) (h : i ≠ j) :
    (p.setCheck i c).checkAt j = p.checkAt j := recordAt_setIfInBounds_other _ _ h

theorem Part.checkAt_lt {p : Part} {i : Nat} {c : Check} (h : p.checkAt i = some c) : i < 160 := recordAt_lt h

@[simp] theorem Part.setCheck_setCheck (p : Part) (i : Nat) (c d : Option Check) :
    (p.setCheck i c).setCheck i d = p.setCheck i d := by
  simp [Part.setCheck, Vector.setIfInBounds_setIfInBounds]

/-! ### Claims -/

theorem Part.claimAt_setClaim_same (p : Part) {i : Nat} (c : Option Claim) (h : i < 64) : (p.setClaim i c).claimAt i = c :=
  recordAt_setIfInBounds_same _ _ h

theorem Part.claimAt_setClaim_other (p : Part) {i j : Nat} (c : Option Claim) (h : i ≠ j) :
    (p.setClaim i c).claimAt j = p.claimAt j := recordAt_setIfInBounds_other _ _ h

/-- The claims on a check are the records in use that name it. -/
theorem Part.mem_claimsOn (p : Part) (number i : Nat) (c : Claim) :
    (i, c) ∈ p.claimsOn number ↔ p.claimAt i = some c ∧ c.check = number := by
  simp [Part.claimsOn, mem_inUse, Part.claimAt]

/-- A terminal's own claims on a check are the records in use that name both. -/
theorem Part.mem_ownClaims (p : Part) (terminal number i : Nat) (c : Claim) :
    (i, c) ∈ p.ownClaims terminal number ↔ p.claimAt i = some c ∧ c.check = number ∧ c.terminal = terminal := by
  simp [Part.ownClaims, Part.mem_claimsOn, and_assoc]

/-! ### Entries and journal slots -/

theorem Part.entryCell_setEntry_same (p : Part) {i : Nat} (e : EntryCell) (h : i < 48) : (p.setEntry i e).entryCell i = e := by
  simp [Part.entryCell, h]

theorem Part.entryCell_setEntry_other (p : Part) {i j : Nat} (e : EntryCell) (h : i ≠ j) :
    (p.setEntry i e).entryCell j = p.entryCell j := by
  simp [Part.entryCell, h]

theorem Journal.slotAt_setSlot_same (j : Journal) {i : Nat} (s : Option Slot) (h : i < 512) : (j.setSlot i s).slotAt i = s :=
  recordAt_setIfInBounds_same _ _ h

theorem Journal.slotAt_setSlot_other (j : Journal) {i k : Nat} (s : Option Slot) (h : i ≠ k) :
    (j.setSlot i s).slotAt k = j.slotAt k := recordAt_setIfInBounds_other _ _ h

end Sys2Proof.Machine
end

