-- ==== Sys2Proof/Laws/Serve.lean ====
section
/-! SUPPORT. Laws/Serve.lean: what taking a request comes to, once for the order server, for the terminals and for the
gateway: a proof about a request cites these and looks at its handler alone. -/

namespace Sys2Proof.Machine

@[simp] theorem act_eq (f : Part → Part) (s : State) : act f s = .next (s.become (f s.toPart)) := rfl

@[simp] theorem State.become_toPart (s : State) (p : Part) : (s.become p).toPart = p := rfl

@[simp] theorem State.become_pending (s : State) (p : Part) : (s.become p).pending = s.pending := rfl

theorem Part.freePlaces_pos {p : Part} {l : Link} (hk : p.kept = none) (h : (p.link l).outbound.length < 16) :
    0 < p.freePlaces l := by
  simp [Part.freePlaces, Config.outboundPlaces, hk]
  omega

theorem LinkState.enqueue_room {x : LinkState} {f : Frame} (h : x.outbound.length < 16) :
    x.enqueue f = { x with outbound := x.outbound ++ [f], sending := x.sending || x.rdyIn } := by
  simp [LinkState.enqueue, Config.outboundPlaces, h]

/-- A reply by a part that differs from the part that took the frame in no link: the frame has left, and the reply stands at
the tail of the outbound queue. -/
theorem Part.reply_eq_answered {p q : Part} {l : Link} {f : Frame} {body : List Byte}
    (hl : q.links = (p.taken l).links) (h : (p.link l).outbound.length < 16) :
    q.reply l (replyFrame f body) = Part.answered { q with links := p.links, kept := none } l f body := by
  have hq : q.link l = { p.link l with inbound := (p.link l).inbound.tail } := by
    rw [Part.link, hl]
    simp [Part.taken, Part.dropHead, Part.setLink]
  have hr : q.releasePlace.link l = q.link l := rfl
  unfold Part.reply Part.enqueue
  rw [hr, hq, LinkState.enqueue_room (by simpa using h)]
  simp only [Part.answered, Part.setLink, Part.releasePlace, Part.link, hl, Part.taken, Part.dropHead, Links.set_set]

/-! ### The order server -/

theorem Part.orderReady_iff {p : Part} {kind : Byte} {length : Nat} {f : Frame} :
    p.orderReady kind length f = true ↔ p.control.startup = .ready ∧ p.kept = none ∧ (p.link .ol).inbound.head? = some f ∧
      (p.link .ol).outbound.length < 16 ∧ f.kind = kind ∧ f.terminal = 0 ∧ f.body.length = length := by
  simp only [Part.orderReady, Bool.and_eq_true, decide_eq_true_eq, and_assoc]
  rfl

theorem Part.takable_of {p : Part} {l : Link} {f : Frame} (hs : p.control.startup.takesFrames = true) (hk : p.kept = none)
    (hf : (p.link l).inbound.head? = some f) (ho : l = .al ∨ (p.link l).outbound.length < 16) : p.takable l = some f := by
  rcases ho with rfl | ho
  · simp [Part.takable, hs, hf]
  · simp [Part.takable, hs, hf, Part.freePlaces_pos hk ho]

/-- A request that stands ready is handed to its handler and concluded. -/
theorem Part.serveOrder_ready {p : Part} {kind : Byte} {length : Nat} {f : Frame} {handles lengthOk : Frame → Bool}
    {excepted : Bool} {handler : Frame → Part → Handled} (h : p.orderReady kind length f = true) (hh : handles f = true)
    (hn : lengthOk f = true) :
    p.serveOrder handles excepted lengthOk handler = (p.taken .ol).conclude .ol f (handler f (p.taken .ol)) := by
  obtain ⟨h1, h2, h3, h4, h5, h6, h7⟩ := Part.orderReady_iff.mp h
  have hs : (p.taken .ol).control.startup = .ready := h1
  simp [Part.serveOrder, Part.takable_of (by rw [h1]; rfl) h2 h3 (.inr h4), hh, hn, Part.handleOrder, hs, h6, lengthThen]

/-- A request that its handler refuses is answered with the refusal, and nothing else changes. -/
theorem Part.serveOrder_refused {p : Part} {kind : Byte} {length : Nat} {f : Frame} {handles lengthOk : Frame → Bool}
    {excepted : Bool} {handler : Frame → Part → Handled} {r : Result} (h : p.orderReady kind length f = true)
    (hh : handles f = true) (hn : lengthOk f = true) (he : handler f (p.taken .ol) = .error r) :
    p.serveOrder handles excepted lengthOk handler = p.answered .ol f r.body := by
  obtain ⟨_, h2, _, h4, _⟩ := Part.orderReady_iff.mp h
  rw [Part.serveOrder_ready h hh hn, he, Part.conclude, Part.reply_eq_answered rfl h4]
  simp [Part.taken, Part.dropHead, Part.setLink, ← h2]

/-- A request that its handler carries out without touching a link is answered OK with its fields. -/
theorem Part.serveOrder_done {p q : Part} {kind : Byte} {length : Nat} {f : Frame} {handles lengthOk : Frame → Bool}
    {excepted : Bool} {handler : Frame → Part → Handled} {fields : List Byte} (h : p.orderReady kind length f = true)
    (hh : handles f = true) (hn : lengthOk f = true) (he : handler f (p.taken .ol) = .ok (q, some fields))
    (hl : q.links = (p.taken .ol).links) :
    p.serveOrder handles excepted lengthOk handler
      = Part.answered { q with links := p.links, kept := none } .ol f (0 :: fields) := by
  obtain ⟨_, _, _, h4, _⟩ := Part.orderReady_iff.mp h
  rw [Part.serveOrder_ready h hh hn, he, Part.conclude, Part.reply_eq_answered hl h4]
  rfl

/-! ### The terminals -/

theorem Part.admits_range {p : Part} {t : Tl} {n : Nat} (h : p.admits t n = true) : within 1 96 n = true := by
  simp [Part.admits, Part.permitted, Config.terminals] at h
  exact h.1.1.1

theorem Part.terminalReady_iff {p : Part} {t : Tl} {kind : Byte} {f : Frame} :
    p.terminalReady t kind f = true ↔ p.control.startup = .ready ∧ p.kept = none ∧
      (p.link (.tl t)).inbound.head? = some f ∧ (p.link (.tl t)).outbound.length < 16 ∧ f.kind = kind ∧
      p.admits t f.sender = true := by
  simp only [Part.terminalReady, Bool.and_eq_true, decide_eq_true_eq, and_assoc]
  rfl

/-- The Roster passes a frame that it admits, and the terminal's entry is updated (R20). -/
theorem Part.rosterStep_admitted {p : Part} {t : Tl} {f : Frame} (h : p.admits t f.sender = true) :
    (p.taken (.tl t)).rosterStep t f = .passed ((p.taken (.tl t)).welcomed t f) := by
  have range := Part.admits_range h
  have perm : (p.taken (.tl t)).permitted f.sender = true := by
    simp [Part.admits] at h
    exact h.1.1
  have term : (p.taken (.tl t)).terminal f.sender = p.terminal f.sender := rfl
  have venue : (p.taken (.tl t)).venue = p.venue := rfl
  have now : (p.taken (.tl t)).now = p.now := rfl
  have pass : (p.taken (.tl t)).letPass t f = .passed ((p.taken (.tl t)).welcomed t f) := by
    simp only [Part.admits, Bool.and_eq_true, Bool.or_eq_true, decide_eq_true_eq] at h
    unfold Part.letPass
    dsimp only
    rw [term]
    rcases h.1.2 with e | e
    · rw [e]
      simp [Part.hear, Part.setRosterState, Part.welcomed, Part.terminal_setTerminal_same _ _ range]
    · rw [e]
      simp [Part.hear, Part.welcomed, term, ← e]
  unfold Part.rosterStep
  rw [perm, term]
  simp only [Part.admits, Bool.and_eq_true, Bool.or_eq_true, decide_eq_true_eq] at h
  cases hh : (p.terminal f.sender).heard with
  | none => simpa using pass
  | some x =>
    simp only [hh, Bool.or_eq_true, decide_eq_true_eq] at h
    have : ¬(x.link ≠ t ∧ ((p.taken (.tl t)).now - x.time).toNat ≤ (p.taken (.tl t)).venue.duplicateWindow) := by
      rw [now, venue]
      rcases h.2 with e | e
      · simp [e]
      · omega
    dsimp only
    rw [if_neg this]
    exact pass

/-- A terminal request that stands ready is handed to its handler once the Roster has passed it, and concluded. -/
theorem Part.serveTerminal_ready {p : Part} {t : Tl} {kind : Byte} {f : Frame} {handles lengthOk : Frame → Bool}
    {handler : Frame → Part → Handled} (h : p.terminalReady t kind f = true) (hh : handles f = true)
    (hn : lengthOk f = true) :
    p.serveTerminal t handles lengthOk handler
      = ((p.taken (.tl t)).welcomed t f).conclude (.tl t) f (handler f ((p.taken (.tl t)).welcomed t f)) := by
  obtain ⟨h1, h2, h3, h4, h5, h6⟩ := Part.terminalReady_iff.mp h
  have hs : (p.taken (.tl t)).control.startup = .ready := h1
  simp [Part.serveTerminal, Part.takable_of (by rw [h1]; rfl) h2 h3 (.inr h4), hh, hn, Part.handleTerminal, hs,
    Part.rosterStep_admitted h6, lengthThen]

/-- A terminal request that its handler refuses: the entry is updated, and the refusal is answered. -/
theorem Part.serveTerminal_refused {p : Part} {t : Tl} {kind : Byte} {f : Frame} {handles lengthOk : Frame → Bool}
    {handler : Frame → Part → Handled} {r : Result} (h : p.terminalReady t kind f = true) (hh : handles f = true)
    (hn : lengthOk f = true) (he : handler f ((p.taken (.tl t)).welcomed t f) = .error r) :
    p.serveTerminal t handles lengthOk handler = (p.welcomed t f).answered (.tl t) f r.body := by
  obtain ⟨_, h2, _, h4, _⟩ := Part.terminalReady_iff.mp h
  rw [Part.serveTerminal_ready h hh hn, he, Part.conclude,
    Part.reply_eq_answered (p := p) (q := (p.taken (.tl t)).welcomed t f) rfl h4]
  simp [Part.taken, Part.dropHead, Part.setLink, Part.welcomed, Part.setTerminal, Part.terminal, Part.now, ← h2]

/-- A terminal request that its handler carries out without touching a link is answered OK with its fields. -/
theorem Part.serveTerminal_done {p q : Part} {t : Tl} {kind : Byte} {f : Frame} {handles lengthOk : Frame → Bool}
    {handler : Frame → Part → Handled} {fields : List Byte} (h : p.terminalReady t kind f = true) (hh : handles f = true)
    (hn : lengthOk f = true) (he : handler f ((p.taken (.tl t)).welcomed t f) = .ok (q, some fields))
    (hl : q.links = (p.taken (.tl t)).links) :
    p.serveTerminal t handles lengthOk handler
      = Part.answered { q with links := p.links, kept := none } (.tl t) f (0 :: fields) := by
  obtain ⟨_, _, _, h4, _⟩ := Part.terminalReady_iff.mp h
  rw [Part.serveTerminal_ready h hh hn, he, Part.conclude, Part.reply_eq_answered hl h4]
  rfl

/-! ### The journal -/

/-- A request for MARK_VOID leaves it as it was whether an ERASE is outstanding (R149). -/
theorem Port.outstanding_request_markVoid (q : Port) (now : Time) (j k : Nat) (head : Bool) :
    (q.request now (.markVoid j)).outstanding (.erase k head) = q.outstanding (.erase k head) := by
  unfold Port.request
  split
  · simp_all [Port.outstanding]
  · split <;> simp [Port.outstanding]

/-- What the void of a PENDING slot does, all at once (R157, R158, R160). -/
theorem Part.voidPending_eq_slotVoided {p : Part} {j : Nat} {z : Slot} (h : p.journal.slotAt j = some z)
    (hp : z.state = .pending) : p.voidPending j = p.slotVoided j z := by
  have head : ∀ x : Slot, x.state = .void →
      ((p.journal.setSlot j (some x)).slotAt p.journal.head).any (fun w => decide (w.state = .void))
        = (decide (p.journal.head = j) || (p.journal.slotAt p.journal.head).any fun w => decide (w.state = .void)) := by
    intro x hx
    by_cases e : p.journal.head = j
    · simp [Journal.slotAt, Journal.setSlot, e, recordAt_setIfInBounds_same _ _ (recordAt_lt h), hx]
    · simp [Journal.slotAt, Journal.setSlot, e, recordAt_setIfInBounds_other _ _ (Ne.symm e)]
  have test : ∀ q : Part, q.headTest =
      if (q.journal.slotAt q.journal.head).any (fun w => decide (w.state = .void)) = true ∧
        q.port.outstanding (.erase q.journal.head true) = false then q.request (.erase q.journal.head true) else q := by
    intro q
    unfold Part.headTest
    cases q.journal.slotAt q.journal.head <;> simp
  have void := head { z with state := .void, contents := { z.contents with token := [] } } rfl
  rw [Part.voidPending, h]
  simp only [hp, if_true, test]
  simp only [Part.slotVoided, Part.request, Part.setPort, Part.setJournal, Journal.voidSlot, hp, if_true, SlotContents.authAmount,
    Port.outstanding_request_markVoid, Part.now]
  rw [← void]
  simp only [Port.outstanding, Bool.or_eq_false_iff, List.contains_eq_mem, decide_eq_false_iff_not]
  by_cases g : ((p.journal.setSlot j (some { z with state := .void, contents := { z.contents with token := [] } })).slotAt
      p.journal.head).any (fun w => decide (w.state = .void)) = true ∧
      MemoryOp.erase p.journal.head true ∉ p.port.queue ∧ MemoryOp.erase p.journal.head true ∉ p.port.waiting
  · rw [if_pos g]
    exact if_pos g
  · rw [if_neg g]
    exact if_neg g

/-- The void of a slot that is not PENDING changes nothing (R157). -/
theorem Part.voidPending_of_not_pending {p : Part} {j : Nat} (h : ∀ z, p.journal.slotAt j = some z → z.state ≠ .pending) :
    p.voidPending j = p := by
  unfold Part.voidPending
  split
  · rename_i z e
    rw [if_neg (h z e)]
  · rfl

/-! ### The gateway -/

theorem Part.gatewayReady_iff {p : Part} {kind : Byte} {f : Frame} :
    p.gatewayReady kind f = true ↔ p.control.startup = .ready ∧ p.kept = none ∧ (p.link .al).inbound.head? = some f ∧
      f.kind = kind ∧ f.terminal = 0 ∧ f.answerOk = true := by
  simp [Part.gatewayReady, and_assoc]

/-- A gateway frame that stands ready moves the link timers and is handed to its handler. -/
theorem Part.serveGateway_ready {p : Part} {kind : Byte} {f : Frame} {handles : Frame → Bool}
    {handler : Frame → Part → Part} (h : p.gatewayReady kind f = true) (hh : handles f = true) :
    p.serveGateway handles (fun g q => q.takeAnswer g handler) = handler f (p.dropHead .al).alHeard := by
  obtain ⟨h1, h2, h3, h4, h5, h6⟩ := Part.gatewayReady_iff.mp h
  have hs : (p.dropHead .al).control.startup = .ready := h1
  simp [Part.serveGateway, Part.takable_of (by rw [h1]; rfl) h2 h3 (.inl rfl), hh, Part.takeAnswer, h5, h6, hs]

end Sys2Proof.Machine
end

