-- ==== Sys2Proof/WellFormed.lean ====
section
/-! DEFINITION. WellFormed.lean: which commands can be given at all. The operands' types exclude nearly every
meaningless command; one check is left. -/

namespace Sys2Proof

/-- A link that PRESENT can be taken from: a terminal link or OL (01, "Message kinds": PRESENT, 0x13, on TL and OL). -/
def Link.carriesPresent : Link → Bool
  | .tl _ => true
  | .ol => true
  | .al => false

/-- A command is well formed when PRESENT names a link that carries it; every other command always is. -/
def Instr.wellFormed : Instr → Bool
  | .present l => l.carriesPresent
  | .resetNLow | .resetNRelease _ | .internalReset _ | .enterHalted | .pfailAsserted _ | .serviceClockTick
  | .wholeSecond | .refppsEdge | .frameComplete _ _ | .interByteTimeout _ | .frameTransmitted _
  | .heldReplyMove _ | .noticeMove | .arbiterGrant | .unacceptedKindFrame _ | .lookup _ | .lookupByTable _
  | .claim _ | .release _ | .viewShare _ | .setPlan _ | .assignLine _ | .payCard _ | .payCash _
  | .voidTender _ | .tenderStatus _ | .tenderStatusFlight _ | .openCheck | .addLine | .voidLine | .setCovers
  | .moveCheck | .closeCheck | .discardCheck | .readCheckSummary | .readCheckLines | .readCheckShares
  | .readCheckTenders | .resolveTenderAccept | .resolveTenderReverse | .terminalControlReset
  | .terminalControlBar | .terminalControlUnbar | .readExceptions | .clearException | .status | .calibrate
  | .restart | .configBegin | .configRecord | .configEnd | .authReply | .reversalReply | .submitReply
  | .gatewayError | .linkAlive | .claimLeaseExpiry | .liveTimeout | .watchExpiry | .drainTimeout
  | .reversalExpiry | .alAliveExpiry | .alSettleExpiry | .calGuardExpiry | .memoryTransferEnd _
  | .operationLimit | .saveImageSnapshot | .byteReceived _ _ | .stopBitError _ | .rdyInAsserted _ _ => true

end Sys2Proof
end

