-- ==== Sys2Proof/Tests/Slice0.lean ====
section
/-! SUPPORT. Tests/Slice0.lean: the model's own tests: the smoke test of WellFormed, worked examples of the manual, and for
every statement with hypotheses a state that meets them. -/

namespace Sys2Proof.Tests

open Sys2Proof Sys2Proof.Machine

-- The kernel evaluates one test after another: tests that wait side by side for the kernel would each hold a thread.
set_option Elab.async false

/-! ### Small states -/

/-- The part in READY with the built-in configuration and nothing in it. -/
def ready : State := State.reset.become (State.reset.setControl { Control.initial with startup := .ready })

/-- The part of `s` in another start-up state. -/
def phase (x : Startup) (s : State) : State := s.become (s.setControl { s.control with startup := x })

/-- A frame waits on link `l`. -/
def offer (l : Link) (f : Frame) (s : State) : State :=
  s.become (s.setLink l { s.link l with inbound := (s.link l).inbound ++ [f] })

/-- A check stands in a slot. -/
def holding (i : Nat) (c : Check) (s : State) : State := s.become (s.setCheck i (some c))

/-- A claim stands in a record. -/
def claimed (i : Nat) (c : Claim) (s : State) : State := s.become (s.setClaim i (some c))

/-- An authorization entry is in use. -/
def busy (i : Nat) (x : Entry) (s : State) : State := s.become (s.setEntry i { s.entryCell i with use := some x })

/-- The clock unit is replaced. -/
def clocked (f : ClockUnit → ClockUnit) (s : State) : State := s.become (s.setClock (f s.clockUnit))

/-- The clock stands at `n`. -/
def timed (n : Nat) (s : State) : State := clocked (fun u => { u with clock := BitVec.ofNat 32 n }) s

/-- A frame of the order server, of terminal 12 and of the gateway. -/
def order (kind : Byte) (body : List Byte) : Frame := { kind := kind, tag := 7, terminal := 0, body := body }
def request (kind : Byte) (body : List Byte) : Frame := { kind := kind, tag := 7, terminal := 12, body := body }
def answer (kind : Byte) (body : List Byte) : Frame := { kind := kind, tag := 0, terminal := 0, body := body }

/-- A check of 1,000 on one share, number 1204 at table 7. -/
def dinner : Check :=
  { Check.fresh 1204 7 4 0#32 with
    totals := { Totals.zero with itemNet := 1000, total := 1000 }
    shares := tabulate 16 fun i => if i = 0 then { Share.blank 1 with due := 1000, preTax := 1000 } else Share.blank 0 }

/-- Terminal 12's claim on the check, whole. -/
def whole : Claim := { terminal := 12, check := 1204, scope := .whole, state := .active, grantedAt := 0 }

/-- A card tender of terminal 12 for the whole of `dinner`. -/
def card (state : TenderState) : Tender :=
  { id := 1, share := 1, terminal := 12, payment := .card 100 4242, amount := 1000, state := state, requestTag := 5 }

/-- The journal contents of terminal 12's tender. -/
def contents13 : SlotContents :=
  { check := 1204, table := 7, terminal := 12, tender := 1, amount := 1000, tip := 100, stamp := 4, token := List.replicate 16 0x5A }

/-! ### WellFormed -/

/-- PRESENT is not carried on AL, and is on the other links (01, "Message kinds"). -/
theorem test_present_wellFormed :
    Instr.wellFormed (.present .al) = false ∧ Instr.wellFormed (.present .ol) = true ∧
      Instr.wellFormed (.present (.tl .tl3)) = true := by decide

/-! ### Whole-machine statements -/

/-- The part in READY with a VENUE value that is not the built-in one. -/
def tuned (f : Venue → Venue) (s : State) : State := s.become (s.setControl { s.control with venue := f s.control.venue })

theorem witness_EmptyQueuePassesOneSystemClock_1 :
    State.reset.pending = [] ∧ State.reset.control.startup = .reset ∧ ready.pending = [] ∧
      ready.control.startup ≠ .reset ∧ ready.control.startup ≠ .halted ∧ (phase .halted ready).control.startup = .halted := by
  decide +kernel

def lastClock (n : Nat) : State := clocked (fun u => { u with tickCounter := n, calibration := .counting 3 70 }) ready

theorem witness_EmptyQueuePassesOneSystemClock_2 :
    (lastClock 23998).clockUnit.tickCounter + 1 < (lastClock 23998).clockUnit.divisor ∧
      (lastClock 23999).clockUnit.divisor ≤ (lastClock 23999).clockUnit.tickCounter + 1 := by decide +kernel

theorem witness_EveryStepKeepsTheBounds : ready.bounded = true ∧ ∃ t, step ready = .next t :=
  ⟨by decide +kernel, _, rfl⟩

theorem witness_EveryStepMovesStartupAsTabled : ready.phased = true ∧ ∃ t, step ready = .next t :=
  ⟨by decide +kernel, _, rfl⟩

def rivals : State :=
  claimed 1 { whole with scope := .share 2, terminal := 13 } (claimed 0 { whole with scope := .share 1 } ready)

theorem witness_EveryStepKeepsClaimsApart : rivals.claimsApart = true ∧ ∃ t, step rivals = .next t :=
  ⟨by decide +kernel, _, rfl⟩

theorem witness_MemoryKeepsItsFormAndContents :
    ready.memory.wf = true ∧ (∃ t, step ready = .next t) ∧ (∀ e, Instr.noticeMove ≠ .memoryTransferEnd e) ∧
      Instr.noticeMove ≠ .operationLimit ∧ Instr.noticeMove ≠ .resetNLow ∧ (∀ x, Instr.noticeMove ≠ .internalReset x) ∧
      ∃ t, exec .noticeMove ready = .next t :=
  ⟨by decide +kernel, ⟨_, rfl⟩, by simp, by simp, by simp, by simp, _, rfl⟩

theorem witness_ClockAndConfigurationHold :
    let s := tuned (fun v => { v with cashUnit := 5 }) ready
    s.phased = true ∧ ∃ t, exec .resetNLow s = .next t ∧ t.venue ≠ s.venue :=
  ⟨by decide +kernel, _, rfl, by decide +kernel⟩

/-! ### Start-up, power and reset -/

/-- The Memory Port has operations in its queue. -/
def operating (ops : List MemoryOp) (s : State) : State := s.become (s.setPort { s.port with queue := ops })

theorem witness_ResetNLowTakesEveryBlockToReset_1 : ready.transferring = none := by decide +kernel

theorem witness_ResetNLowTakesEveryBlockToReset_2 :
    let s := operating [.markVoid 0] ready
    s.transferring = some (.markVoid 0) ∧
      (∀ start bytes, s.writeOf (.markVoid 0) = some (start, bytes) → 0x00FFFF < start ∨ start + bytes.length ≤ 0x00FFFF) ∧
      (∀ start bytes, s.writeOf (.markVoid 0) = some (start, bytes) → 0x010001 < start ∨ start + bytes.length ≤ 0x010001) := by
  refine ⟨by decide +kernel, ?_, ?_⟩ <;>
    (intro start bytes h; obtain ⟨rfl, rfl⟩ := Prod.mk.inj (Option.some.inj h); decide)

theorem witness_StartUpFollowsTheStraps_1 : State.reset.control.startup = .reset ∧ State.reset.port.queue = [] := by
  decide +kernel

def restarted : State := (phase .saving ready).become
  { (phase .saving ready) with control := { (phase .saving ready).control with restarting := true } }

theorem witness_StartUpFollowsTheStraps_2 :
    restarted.control.startup = .saving ∧ restarted.control.restarting = true ∧ restarted.port.queue = [] ∧
      restarted.port.waiting = [] ∧ restarted.control.replyAhead = 0 := by decide +kernel

theorem witness_PowerFailAndRestartSave_1 :
    let s := phase .saving ready
    s.control.startup = .saving ∧ s.control.restarting = false ∧ s.port.queue = [] ∧ s.port.waiting = [] ∧
      ready.control.startup = .ready ∧ s.control.startup ≠ .ready := by decide +kernel

def restartAsked : State := offer .ol (order 0x3E []) ready

theorem witness_PowerFailAndRestartSave_2 : restartAsked.orderReady 0x3E 0 (order 0x3E []) = true := by decide +kernel

/-- The part waits for a download, with a frame at the head of OL. -/
def awaiting (d : Download) (f : Frame) : State :=
  offer .ol f ((phase .loading ready).become
    { (phase .loading ready) with control := { (phase .loading ready).control with download := some d } })

/-- A VENUE record with every value in its range, at the low end of some and the high end of others. -/
def venueRecord : List Byte :=
  [1, 0, 0x30, 0x75] ++ List.replicate 14 0 ++ [0x30, 0x75, 40, 100, 0xA0, 0x86, 1, 0, 30, 0, 3, 10, 0, 30, 120, 50, 0, 0x10, 14,
    0xFF, 0xE0, 0xF5, 5, 0, 0, 0, 0, 16, 1, 0, 2, 0xF0, 0x5A] ++ List.replicate 13 0

theorem witness_TheDownloadConfiguresThePart_1 :
    let f := order 0x3F [2]
    let s := awaiting { declared := some 1, staged := [venueRecord] } f
    s.control.startup = .loading ∧ s.control.download = some { declared := some 1, staged := [venueRecord] } ∧ s.kept = none ∧
      (s.link .ol).inbound.head? = some f ∧ (s.link .ol).outbound.length < 16 ∧ f.terminal = 0 ∧ f.kind = 0x3F ∧
      f.body = leBytes 1 2 := by decide +kernel

theorem witness_TheDownloadConfiguresThePart_2 :
    let f := order 0x40 venueRecord
    let d : Download := { declared := some 1, staged := [] }
    let s := awaiting d f
    s.control.startup = .loading ∧ s.control.download = some d ∧ s.kept = none ∧
      (s.link .ol).inbound.head? = some f ∧ (s.link .ol).outbound.length < 16 ∧ f.terminal = 0 ∧ f.kind = 0x40 ∧
      f.body.length = 64 ∧ d.declared = some 1 ∧ d.staged.length < 1 ∧ recordKind f.body = 1 := by decide +kernel

theorem witness_TheDownloadConfiguresThePart_3 :
    let f := order 0x41 []
    let d : Download := { declared := some 1, staged := [venueRecord] }
    let s := awaiting d f
    s.control.startup = .loading ∧ s.control.download = some d ∧ s.kept = none ∧
      (s.link .ol).inbound.head? = some f ∧ (s.link .ol).outbound.length < 16 ∧ f.terminal = 0 ∧ f.kind = 0x41 ∧ f.body = [] ∧
      d.declared = some d.staged.length ∧ venueRecord ∈ d.staged ∧ recordKind venueRecord = 1 ∧
      (∀ r ∈ d.staged, recordKind r = 1 → r = venueRecord) := by decide +kernel

/-- The memory is replaced, and the operation in progress has made `n` transfers. -/
def reading (m : Memory) (n : Nat) (s : State) : State :=
  s.become { s.toPart with memory := m, port := { s.port with transfersDone := n } }

/-- A configuration image of one record, or of none. -/
def configImage (records : List (List Byte)) : Memory :=
  let covered := [1, 0] ++ leBytes 1 records.length ++ [0]
  Memory.writeAll [] 0 ([0x52, 0x43, 0x46, 0x47] ++ covered ++ leBytes 2 (crc16 (covered ++ records.flatten)).toNat
    ++ List.replicate 6 0 ++ records.flatten)

/-- LOAD_CONFIG is in progress after `n` transfers. -/
def configuring (m : Memory) (n : Nat) : State := reading m n (operating [.loadConfig] (phase .loading ready))

theorem witness_TheDownloadConfiguresThePart_4 :
    let s := configuring (configImage [venueRecord]) 1
    let header := s.memory.readAll 0 16
    let records := (List.range (fieldAt header 6 1)).map fun i => s.memory.readAll (16 + 64 * i) 64
    s.control.startup = .loading ∧ s.port.queue = [.loadConfig] ∧ s.port.waiting = [] ∧ s.journal.eraseAgain = false ∧
      s.port.transfersDone = (64 * fieldAt header 6 1 + 255) / 256 ∧ header.take 4 = [0x52, 0x43, 0x46, 0x47] ∧
      fieldAt header 4 2 = 1 ∧ records = [venueRecord] ∧
      fieldAt header 8 2 = (crc16 ((header.drop 4).take 4 ++ records.flatten)).toNat ∧
      (records.filter fun r => decide (fieldAt r 0 1 = 1)).head? = some venueRecord ∧
      (∀ r ∈ records, fieldAt r 0 1 = 1) ∧ (configuring (configImage [venueRecord]) 0).port.transfersDone < 1 ∧
      fieldAt ((configuring (configImage []) 0).memory.readAll 0 16) 6 1 = 0 ∧
      50 ≤ ((timed 50 s).now - (timed 50 s).port.transferStart).toNat := by decide +kernel

theorem witness_TheDownloadConfiguresThePart_5 :
    let low := 1 :: List.replicate 63 0
    let high := 1 :: List.replicate 63 0xFF
    venueClamped venueRecord = false ∧ venueClamped low = true ∧ fieldAt low 21 1 = 0 ∧ fieldAt low 26 2 < 30 ∧
      venueClamped high = true ∧ 1 < fieldAt high 1 1 ∧ (venueOf high none).cashUnit = 100 ∧
      (venueOf venueRecord none).cashUnit = 100 ∧ fieldAt venueRecord 21 1 = 100 ∧ high.length = 64 ∧ (1 : Nat) ≤ 96 := by
  decide +kernel

/-! ### Links -/

/-- Link TL2 with its receiver in a state. -/
def receiving (r : Receiver) : State := ready.become (ready.setLink (.tl .tl2) { ready.link (.tl .tl2) with receiver := r })

theorem witness_ReceiverTakesBytesAndDropsBrokenFrames_1 :
    (receiving (.hunt true)).control.startup.running = true ∧
      ((receiving (.hunt true)).link (.tl .tl2)).receiver = .hunt true ∧ (0xA4 : Byte) ≠ 0xA5 ∧
      ((receiving (.hunt false)).link (.tl .tl2)).receiver = .hunt false ∧
      ((receiving (.header none 0)).link (.tl .tl2)).receiver = .header none 0 := by decide +kernel

theorem witness_ReceiverTakesBytesAndDropsBrokenFrames_2 :
    ((receiving (.header (some 6) 0)).link (.tl .tl2)).receiver = .header (some 6) 0 ∧
      within 6 297 ((6 : Byte).toNat + 256 * (0 : Byte).toNat) = true ∧
      ((receiving (.header (some 0x2A) 0)).link (.tl .tl2)).receiver = .header (some 0x2A) 0 ∧
      within 6 297 ((0x2A : Byte).toNat + 256 * (1 : Byte).toNat) = false ∧
      ((receiving (.body 6 [1, 2, 3, 4] 0)).link (.tl .tl2)).receiver = .body 6 [1, 2, 3, 4] 0 ∧
      [1, 2, 3, 4].length + 1 < 6 := by decide +kernel

/-- The receiver took its last byte `n` ticks ago. -/
def silent (n : Nat) : State := clocked (fun u => { u with clock := BitVec.ofNat 32 n }) (receiving (.header none 0))

theorem witness_ReceiverTakesBytesAndDropsBrokenFrames_3 :
    (silent 20).control.startup.running = true ∧ ((silent 20).link (.tl .tl2)).lastByte = some 0 ∧
      20 ≤ ((silent 20).now - 0).toNat ∧ ((silent 19).link (.tl .tl2)).lastByte = some 0 ∧
      ((silent 19).now - 0).toNat < 20 := by decide +kernel

/-- The bytes after the length field of the worked frame: STATUS, tag 7, no body (01). -/
def statusBytes : List Byte := ((frameBytes (order 0x3C [])).drop 3).take 5

theorem witness_ReceiverCompletesAFrame :
    let s := receiving (.body 6 statusBytes 0)
    let last := (frameBytes (order 0x3C [])).getLast?.getD 0
    s.control.startup.running = true ∧ (s.link (.tl .tl2)).receiver = .body 6 statusBytes 0 ∧ statusBytes.length + 1 = 6 ∧
      fieldAt (statusBytes ++ [last]) 4 2 = (crc16 (leBytes 2 6 ++ (statusBytes ++ [last]).take 4)).toNat ∧
      fieldAt (statusBytes ++ [last + 1]) 4 2 ≠ (crc16 (leBytes 2 6 ++ (statusBytes ++ [last + 1]).take 4)).toNat ∧
      (s.link (.tl .tl2)).inbound.length < 8 := by decide +kernel

theorem witness_OutputLinesFollowTheState :
    let s := phase .restoring (receiving (.body 6 statusBytes 0))
    let last := (frameBytes (order 0x3C [])).getLast?.getD 0
    s.control.startup = .restoring ∧ Link.tl .tl2 ≠ .ol ∧ (s.link (.tl .tl2)).receiver = .body 6 statusBytes 0 ∧
      statusBytes.length + 1 = 6 ∧ (s.link (.tl .tl2)).inbound.length < 8 ∧
      fieldAt (statusBytes ++ [last]) 4 2 = (crc16 (leBytes 2 6 ++ (statusBytes ++ [last]).take 4)).toNat := by decide +kernel

/-- Link TL2 in the midst of a frame with its inbound queue full. -/
def crowded : State :=
  ready.become (ready.setLink (.tl .tl2)
    { ready.link (.tl .tl2) with receiver := .body 6 statusBytes 0, inbound := List.replicate 8 (order 0x3C []) })

theorem witness_ReceiverCompletesAFrame_full :
    crowded.control.startup.running = true ∧ (crowded.link (.tl .tl2)).receiver = .body 6 statusBytes 0 ∧
      8 ≤ (crowded.link (.tl .tl2)).inbound.length := by decide +kernel

theorem witness_SentFramesAreReceivedWhole :
    let s := receiving (.hunt true)
    s.control.startup.running = true ∧ (s.link (.tl .tl2)).receiver = .hunt true ∧ (s.link (.tl .tl2)).inbound.length < 8 ∧
      (order 0x31 (List.replicate 291 0xA5)).body.length ≤ 291 := by decide +kernel

/-- A link sends. -/
def sending (l : Link) (s : State) : State :=
  s.become (s.setLink l { s.link l with sending := true, rdyIn := true, outbound := [order 1 [0], order 4 []] })

theorem witness_TransmitterSendsInOrder :
    (sending .al ready).control.startup.running = true ∧ Link.al ≠ .ol ∧ ((sending .al ready).link .al).sending = true ∧
      ((sending .al ready).link .al).outbound = order 1 [0] :: [order 4 []] ∧
      ((sending .ol ready).link .ol).outbound = order 1 [0] :: [order 4 []] ∧ ((sending .ol ready).link .ol).sending = true ∧
      (sending .al (phase .halted ready)).control.startup = .halted ∧
      ((sending .al (phase .halted ready)).link .al).outbound = order 1 [0] :: [order 4 []] := by decide +kernel

/-- Terminal `n` was heard on TL1 and has a held reply with a hold number. -/
def held (n : Nat) (number : BitVec 32) (s : State) : State :=
  s.become (s.setTerminal n { s.terminal n with
    heard := some { link := .tl1, time := 0, tag := 3, kind := 0x17 }
    held := some { frame := order 1 [0], number := number } })

/-- Terminal 96's reply is the older across the wrap of the hold counter. -/
def twoHeld : State := held 96 0xFFFFFFFF (held 1 0 ready)

theorem witness_HeldRepliesMoveOldestFirst :
    twoHeld.control.startup.running = true ∧ twoHeld.kept = none ∧ (twoHeld.link (.tl .tl1)).outbound.length < 16 ∧
      within 1 96 96 = true ∧ (twoHeld.terminal 96).held = some { frame := order 1 [0], number := 0xFFFFFFFF } ∧
      (∃ h, (twoHeld.terminal 96).heard = some h ∧ h.link = .tl1) ∧
      ∀ m r' h, within 1 96 m = true → m ≠ 96 → (twoHeld.terminal m).held = some r' → (twoHeld.terminal m).heard = some h →
        h.link = .tl1 → later r'.number 0xFFFFFFFF = true := by
  refine ⟨by decide +kernel, by decide +kernel, by decide +kernel, by decide, by decide +kernel,
    ⟨{ link := .tl1, time := 0, tag := 3, kind := 0x17 }, by decide +kernel, rfl⟩, ?_⟩
  have all : ∀ m ∈ List.range' 1 96, m ≠ 96 →
      (twoHeld.terminal m).held.all (fun r => later r.number 0xFFFFFFFF) = true := by decide +kernel
  intro m r h hm ne hr _ _
  have := all m (by simp [within] at hm; simp [List.mem_range']; exact ⟨m - 1, by omega⟩) ne
  rw [hr] at this
  exact this

/-- Notices wait in the list, and frames in the OL outbound queue. -/
def queued (notices frames : Nat) : State :=
  ready.become { ready.setLink .ol { ready.link .ol with outbound := List.replicate frames (order 1 [0]) } with
    noticeList := List.replicate notices (order 4 []) }

/-- The same while an OL request is handled, its reply's place kept. -/
def keeping (notices frames : Nat) : Part := { (queued notices frames).toPart with kept := some .ol }

theorem witness_NoticesKeepTheirOrder :
    (queued 0 14).kept = none ∧ (keeping 0 13).kept = some .ol ∧ (keeping 0 13).noticeList = [] ∧
      ((keeping 0 13).link .ol).outbound.length + 1 ≤ 14 ∧ 14 < ((keeping 0 14).link .ol).outbound.length + 1 ∧
      (keeping 0 14).noticeList.length < 32 ∧ (queued 0 14).noticeList = [] ∧ ((queued 0 14).link .ol).outbound.length ≤ 14 ∧
      14 < ((queued 0 15).link .ol).outbound.length ∧ (queued 0 15).noticeList.length < 32 ∧
      (queued 31 0).noticeList ≠ [] ∧ (queued 31 0).noticeList.length < 32 ∧ 32 ≤ (queued 32 0).noticeList.length ∧
      (queued 2 14).control.startup.running = true ∧ (queued 2 14).noticeList = order 4 [] :: [order 4 []] ∧
      ((queued 2 14).link .ol).outbound.length ≤ 14 := by decide +kernel

theorem witness_LinksRefuseWhatTheyDoNotTake_1 :
    let f := request 0x1B []
    let g := answer 0x3C []
    let s := offer (.tl .tl0) f (phase .scanning ready)
    let u := offer .al g ready
    s.control.startup.takesFrames = true ∧ s.kept = none ∧ (s.link (.tl .tl0)).inbound.head? = some f ∧
      f.kind ∉ Link.accepts (.tl .tl0) ∧ (s.link (.tl .tl0)).outbound.length < 16 ∧ u.control.startup.takesFrames = true ∧
      (u.link .al).inbound.head? = some g ∧ g.kind ∉ Link.accepts .al := by decide +kernel

theorem witness_LinksRefuseWhatTheyDoNotTake_2 :
    let f := request 0x1A [0, 0, 0]
    let g := order 0x41 []
    let a := answer 0x5C []
    let s := offer .al a (offer .ol g (offer (.tl .tl3) f (phase .restoring ready)))
    let d := awaiting { declared := none, staged := [] } (order 0x37 [1, 0, 3, 0])
    s.control.startup = .restoring ∧ s.kept = none ∧ (s.link (.tl .tl3)).inbound.head? = some f ∧
      (s.link (.tl .tl3)).outbound.length < 16 ∧ takesFromTerminal (.tenderStatusFlight .tl3) .tl3 f ∧
      (s.link .ol).inbound.head? = some g ∧ (s.link .ol).outbound.length < 16 ∧
      takesFromOrder .configEnd s.control.download.isSome g ∧ (s.link .al).inbound.head? = some a ∧ a.terminal = 0 ∧
      takesFromGateway .linkAlive a ∧ d.control.startup = .loading ∧ (d.link .ol).inbound.head? = some (order 0x37 [1, 0, 3, 0]) ∧
      takesFromOrder .readCheckTenders d.control.download.isSome (order 0x37 [1, 0, 3, 0]) ∧
      takesFromTerminal (.lookup .tl0) .tl0 (request 0x10 [0, 0, 7]) ∧
      takesFromTerminal (.lookupByTable .tl0) .tl0 (request 0x10 [0, 0, 7, 0]) := by
  refine ⟨by decide +kernel, by decide +kernel, by decide +kernel, by decide +kernel, ?_, by decide +kernel, by decide +kernel, ?_,
    by decide +kernel, by decide, ?_, by decide +kernel, by decide +kernel, ?_, ?_, ?_⟩
  all_goals
    dsimp only [takesFromTerminal, takesFromOrder, takesFromGateway]
    first | decide +kernel | (simp [order]; decide +kernel)

theorem witness_StatusReportsAndClearsTheCounters :
    let f := order 0x3C []
    let s := offer .ol f (phase .loading ready)
    s.control.startup.takesFrames = true ∧ s.kept = none ∧ (s.link .ol).inbound.head? = some f ∧
      (s.link .ol).outbound.length < 16 ∧ f.kind = 0x3C ∧ f.terminal = 0 ∧ f.body = [] := by decide +kernel

/-! ### Requests from the terminals -/

/-- Terminal 12's request waits on TL0, and check `c` stands in slot 0. -/
def desk (kind : Byte) (body : List Byte) (c : Check) : State := holding 0 c (offer (.tl .tl0) (request kind body) ready)

/-- Terminal 12 holds the WHOLE claim besides. -/
def table12 (kind : Byte) (body : List Byte) (c : Check) : State :=
  let s := claimed 0 whole (desk kind body c)
  s.become (s.setTerminal 12 { s.terminal 12 with claimCount := 1 })

/-- Terminal 12 was last heard on a link at time 0, with a tag and kind, and stands in a roster state. -/
def known (t : Tl) (tag kind : Byte) (state : RosterState) (s : State) : State :=
  s.become (s.setTerminal 12 { s.terminal 12 with state := state, heard := some { link := t, time := 0, tag := tag, kind := kind } })

def cashAsked : State := desk 0x18 [0xB4, 4, 1, 1, 0, 0xE8, 3, 0, 0] dinner

theorem witness_TerminalsAreControlled_roster1 :
    let s := tuned (fun v => { v with permits := 0 }) cashAsked
    s.control.startup = .ready ∧ s.kept = none ∧ (s.link (.tl .tl0)).inbound.head? = some (request 0x18 [0xB4, 4, 1, 1, 0, 0xE8, 3, 0, 0]) ∧
      (s.link (.tl .tl0)).outbound.length < 16 ∧ s.permitted 12 = false ∧
      takesFromTerminal (.payCash .tl0) .tl0 (request 0x18 [0xB4, 4, 1, 1, 0, 0xE8, 3, 0, 0]) := by
  dsimp only [takesFromTerminal]
  decide +kernel

/-- At the end of the duplicate window of 300 ms. -/
def copied (tag : Byte) (state : RosterState) : State := timed 300 (known .tl1 tag 0x18 state cashAsked)

theorem witness_TerminalsAreControlled_roster2 :
    let s := copied 7 .active
    s.permitted 12 = true ∧ (s.terminal 12).heard = some { link := .tl1, time := 0, tag := 7, kind := 0x18 } ∧
      Tl.tl1 ≠ .tl0 ∧ (s.now - 0).toNat ≤ s.venue.duplicateWindow := by decide +kernel

/-- Terminal 12 holds an ACTIVE claim, and is heard on another link with another tag. -/
theorem witness_TerminalsAreControlled_roster3 :
    let s := claimed 63 whole (copied 6 .active)
    s.permitted 12 = true ∧ (s.terminal 12).heard = some { link := .tl1, time := 0, tag := 6, kind := 0x18 } ∧
      (s.now - 0).toNat ≤ s.venue.duplicateWindow ∧ (6 : Byte) ≠ 7 ∧ (s.terminal 12).state = .active ∧
      ((inUse s.claims).filter fun x => decide (x.2.terminal = 12) && decide (x.2.state = .active)) = [(63, whole)] ∧
      (copied 6 .suspect).permitted 12 = true ∧ ((copied 6 .suspect).terminal 12).state = .suspect ∧
      ((copied 6 .suspect).terminal 12).heard = some { link := .tl1, time := 0, tag := 6, kind := 0x18 } ∧
      ((copied 7 .barred).terminal 12).state = .barred ∧ (timed 301 (copied 7 .barred)).permitted 12 = true ∧
      (timed 300 (copied 7 .barred)).venue.duplicateWindow < ((timed 301 (copied 7 .barred)).now - 0).toNat := by decide +kernel

theorem witness_TerminalsAreControlled_roster4 :
    let s := timed 301 (known .tl1 6 0x18 .suspect cashAsked)
    s.permitted 12 = true ∧ (s.terminal 12).state = .suspect ∧
      ∀ h, (s.terminal 12).heard = some h → ¬(h.link ≠ .tl0 ∧ (s.now - h.time).toNat ≤ s.venue.duplicateWindow) := by
  refine ⟨by decide +kernel, by decide +kernel, fun h e => ?_⟩
  have : (timed 301 (known .tl1 6 0x18 .suspect cashAsked)).terminal 12
      = { RosterEntry.initial with state := .suspect, heard := some { link := .tl1, time := 0, tag := 6, kind := 0x18 } } := by
    decide +kernel
  rw [this] at e
  cases e
  decide +kernel

theorem witness_LookupsReportChecksAndShares_1 :
    let f := request 0x10 [0xB4, 4, 0, 0]
    let s := desk 0x10 [0xB4, 4, 0, 0] dinner
    s.terminalReady .tl0 0x10 f = true ∧ f.body.length = 4 ∧ fieldAt f.body 0 2 ≠ 0 ∧
      s.findCheck (fieldAt f.body 0 2) = some (0, dinner) ∧
      (desk 0x10 [0xB5, 4, 0, 0] dinner).terminalReady .tl0 0x10 (request 0x10 [0xB5, 4, 0, 0]) = true ∧
      (desk 0x10 [0xB5, 4, 0, 0] dinner).findCheck 1205 = none := by decide +kernel

theorem witness_LookupsReportChecksAndShares_2 :
    let f := request 0x10 [0, 0, 7, 0]
    let s := desk 0x10 [0, 0, 7, 0] dinner
    s.terminalReady .tl0 0x10 f = true ∧ f.body.length = 4 ∧ fieldAt f.body 0 2 = 0 ∧ within 1 999 (fieldAt f.body 2 2) = true ∧
      s.checksAtTable (fieldAt f.body 2 2) ≠ [] := by decide +kernel

theorem witness_LookupsReportChecksAndShares_3 :
    let f := request 0x14 [0xB4, 4, 1]
    let s := desk 0x14 [0xB4, 4, 1] dinner
    s.terminalReady .tl0 0x14 f = true ∧ f.body.length = 3 ∧ s.findCheck (fieldAt f.body 0 2) = some (0, dinner) ∧
      1 ≤ fieldAt f.body 2 1 ∧ fieldAt f.body 2 1 ≤ dinner.plan.count ∧
      (desk 0x14 [0xB4, 4, 2] dinner).terminalReady .tl0 0x14 (request 0x14 [0xB4, 4, 2]) = true ∧
      dinner.plan.count < fieldAt (request 0x14 [0xB4, 4, 2]).body 2 1 := by decide +kernel

theorem witness_LookupsReportChecksAndShares_4 :
    let far := request 0x10 [0, 0, 0xE8, 3]
    let bare := request 0x10 [0, 0, 0xE7, 3]
    let beyond := request 0x14 [0xB4, 4, 17]
    let lost := request 0x14 [0xB5, 4, 16]
    (desk 0x10 far.body dinner).terminalReady .tl0 0x10 far = true ∧ fieldAt far.body 0 2 = 0 ∧
      within 1 999 (fieldAt far.body 2 2) = false ∧ (desk 0x10 bare.body dinner).terminalReady .tl0 0x10 bare = true ∧
      within 1 999 (fieldAt bare.body 2 2) = true ∧ (desk 0x10 bare.body dinner).checksAtTable (fieldAt bare.body 2 2) = [] ∧
      (desk 0x14 beyond.body dinner).terminalReady .tl0 0x14 beyond = true ∧ beyond.body.length = 3 ∧ 16 < fieldAt beyond.body 2 1 ∧
      (desk 0x14 lost.body dinner).terminalReady .tl0 0x14 lost = true ∧ fieldAt lost.body 2 1 ≤ 16 ∧
      (desk 0x14 lost.body dinner).findCheck (fieldAt lost.body 0 2) = none := by decide +kernel

/-- The dinner check with terminal 12's card tender in a state. -/
def tendered (state : TenderState) : Check := { dinner with tenders := [card state] }

theorem witness_TenderStatusReportsTheRequestersTenders_1 :
    let f := request 0x1A [0xB4, 4, 24]
    let s := desk 0x1A [0xB4, 4, 24] (tendered .failed)
    s.terminalReady .tl0 0x1A f = true ∧ f.body.length = 3 ∧ fieldAt f.body 0 2 ≠ 0 ∧ 1 ≤ fieldAt f.body 2 1 ∧
      fieldAt f.body 2 1 ≤ 24 ∧ s.findCheck (fieldAt f.body 0 2) = some (0, tendered .failed) := by decide +kernel

def flying : State := desk 0x1A [0, 0, 0] (tendered .authorizing)

theorem witness_TenderStatusReportsTheRequestersTenders_2 :
    flying.terminalReady .tl0 0x1A (request 0x1A [0, 0, 0]) = true ∧ flying.checkAt 0 = some (tendered .authorizing) ∧
      card .authorizing ∈ (tendered .authorizing).tenders ∧ (card .authorizing).terminal = 12 ∧
      (card .authorizing).state.inFlight = true ∧
      ∀ j d y, flying.checkAt j = some d → y ∈ d.tenders → y.terminal = 12 → y.state.inFlight = true →
        d.number = 1204 ∧ y.id = 1 ∧ y.state.code = 0 :=
  ⟨by decide +kernel, by decide +kernel, by decide +kernel, by decide, by decide,
    fun j d y e m => forall_recordAt (holds := fun _ d => ∀ y ∈ d.tenders, y.terminal = 12 → y.state.inFlight = true →
      d.number = 1204 ∧ y.id = 1 ∧ y.state.code = 0) (by decide +kernel) j d e y m⟩

theorem witness_TenderStatusReportsTheRequestersTenders_3 :
    let s := desk 0x1A [0, 0, 0] (tendered .failed)
    s.terminalReady .tl0 0x1A (request 0x1A [0, 0, 0]) = true ∧
      ∀ j d y, s.checkAt j = some d → y ∈ d.tenders → y.terminal = 12 → y.state.inFlight = false :=
  ⟨by decide +kernel, fun j d y e m => forall_recordAt (holds := fun _ d => ∀ y ∈ d.tenders, y.terminal = 12 →
    y.state.inFlight = false) (by decide +kernel) j d e y m⟩

theorem witness_TenderStatusReportsTheRequestersTenders_4 :
    let beyond := request 0x1A [0xB4, 4, 25]
    let lost := request 0x1A [0xB5, 4, 1]
    (desk 0x1A beyond.body dinner).terminalReady .tl0 0x1A beyond = true ∧ fieldAt beyond.body 0 2 ≠ 0 ∧ 24 < fieldAt beyond.body 2 1 ∧
      (desk 0x1A lost.body dinner).terminalReady .tl0 0x1A lost = true ∧ 1 ≤ fieldAt lost.body 2 1 ∧
      fieldAt lost.body 2 1 ≤ 24 ∧ (desk 0x1A lost.body dinner).findCheck (fieldAt lost.body 0 2) = none := by decide +kernel

theorem witness_ClaimsAreGrantedHeldAndReplaced_1 :
    let f := request 0x11 [0xB4, 4, 1]
    let s := desk 0x11 [0xB4, 4, 1] dinner
    let asked : Claim := { whole with scope := .share 1 }
    s.terminalReady .tl0 0x11 f = true ∧ f.body.length = 3 ∧ s.findCheck (fieldAt f.body 0 2) = some (0, dinner) ∧
      fieldAt f.body 2 1 ≤ dinner.plan.count ∧ firstFree s.claims = some 0 ∧
      ((s.welcomed .tl0 f).terminal 12).claimCount < 4 ∧
      ∀ j x, s.claimAt j = some x → x.check = dinner.number → x.terminal ≠ 12 ∧ asked.apart x = true :=
  ⟨by decide +kernel, by decide, by decide +kernel, by decide, by decide +kernel, by decide +kernel,
    forall_recordAt (by decide +kernel)⟩

/-- Terminal 13 holds share 1 of the check. -/
def taken13 : State := claimed 5 { whole with terminal := 13, scope := .share 1 } (desk 0x11 [0xB4, 4, 1] dinner)

theorem witness_ClaimsAreGrantedHeldAndReplaced_2 :
    let asked : Claim := { whole with scope := .share 1 }
    let x : Claim := { whole with terminal := 13, scope := .share 1 }
    taken13.terminalReady .tl0 0x11 (request 0x11 [0xB4, 4, 1]) = true ∧ taken13.findCheck 1204 = some (0, dinner) ∧
      taken13.claimAt 5 = some x ∧ x.check = dinner.number ∧ x.terminal ≠ 12 ∧ asked.apart x = false ∧
      ∀ j y, taken13.claimAt j = some y → j ≠ 5 → y.check = dinner.number → y.terminal ≠ 12 → asked.apart y = false →
        x.scope.code < y.scope.code :=
  ⟨by decide +kernel, by decide +kernel, by decide +kernel, by decide, by decide, by decide, forall_recordAt (by decide +kernel)⟩

theorem witness_ClaimsAreGrantedHeldAndReplaced_3 :
    let f := request 0x11 [0xB4, 4, 0]
    let s := table12 0x11 [0xB4, 4, 0] dinner
    s.terminalReady .tl0 0x11 f = true ∧ f.body.length = 3 ∧ s.findCheck (fieldAt f.body 0 2) = some (0, dinner) ∧
      fieldAt f.body 2 1 = 0 ∧ s.claimAt 0 = some whole ∧ whole.terminal = f.sender ∧ whole.check = dinner.number ∧
      whole.state = .active ∧ whole.scope = .whole ∧ ((s.welcomed .tl0 f).terminal f.sender).claimCount ≤ 4 ∧
      ∀ j y, s.claimAt j = some y → j ≠ 0 → y.check ≠ dinner.number :=
  ⟨by decide +kernel, by decide, by decide +kernel, by decide, by decide +kernel, by decide, by decide, by decide, by decide,
    by decide +kernel, forall_recordAt (by decide +kernel)⟩

def widening : State := claimed 0 { whole with scope := .share 1 } (table12 0x11 [0xB4, 4, 0] dinner)

theorem witness_ClaimsAreGrantedHeldAndReplaced_4 :
    widening.terminalReady .tl0 0x11 (request 0x11 [0xB4, 4, 0]) = true ∧ widening.findCheck 1204 = some (0, dinner) ∧
      widening.claimAt 0 = some { whole with scope := .share 1 } ∧
      1 ≤ ((widening.welcomed .tl0 (request 0x11 [0xB4, 4, 0])).terminal 12).claimCount ∧
      firstFree (widening.claims.setIfInBounds 0 none) = some 0 ∧
      ∀ j y, widening.claimAt j = some y → j ≠ 0 → y.check ≠ dinner.number :=
  ⟨by decide +kernel, by decide +kernel, by decide +kernel, by decide +kernel, by decide +kernel,
    forall_recordAt (by decide +kernel)⟩

/-- Terminal 12 holds shares 2 and 16 of a check of 16 shares and asks for share 1, holds them and asks for the whole, or holds the
whole and asks for share 16. -/
def shared : Check := { dinner with plan := { kind := .even, count := 16, given := [] } }
def asks (code : Byte) (claims : List (Nat × Scope)) : State :=
  let s := claims.foldl (fun s x => claimed x.1 { whole with scope := x.2 } s) (desk 0x11 [0xB4, 4, code] shared)
  s.become (s.setTerminal 12 { s.terminal 12 with claimCount := claims.length })

theorem witness_ClaimsAreGrantedHeldAndReplaced_5 :
    let f := fun code : Byte => request 0x11 [0xB4, 4, code]
    let meets := fun (code : Byte) (claims : List (Nat × Scope)) (asked : Scope) (freed j : Nat) =>
      let s := asks code claims
      let own := (inUse s.claims).filter fun x => decide (x.2.check = shared.number) && decide (x.2.terminal = 12)
      let p := s.welcomed .tl0 (f code)
      let gone := own.filter fun x => decide (fieldAt (f code).body 2 1 = 0 ∨ x.2.scope = .whole)
      let q := gone.foldl (fun (q : Part) x => (q.cancel (.claimLease x.1)).setClaim x.1 none) p
      s.terminalReady .tl0 0x11 (f code) = true ∧ s.findCheck 1204 = some (0, shared) ∧
        fieldAt (f code).body 2 1 ≤ shared.plan.count ∧ (inUse s.claims).length = own.length ∧
        (∀ x ∈ own, x.2.state = .active ∧ x.2.scope ≠ asked) ∧ gone.length = freed ∧
        (p.terminal 12).claimCount - freed + 1 ≤ 4 ∧ firstFree q.claims = some j
    meets 1 [(1, .share 2), (63, .share 16)] (.share 1) 0 0 ∧ meets 0 [(1, .share 2), (0, .share 16)] .whole 2 0 ∧
      meets 16 [(0, .whole)] (.share 16) 1 0 := by decide +kernel

/-- Terminal 12 holds a claim PINNED on share 2 and one ACTIVE on share 16, and asks for share 2 or for the whole; it has 4 claims, none
of them on this check; every record is another terminal's. -/
theorem witness_ClaimsAreGrantedHeldAndReplaced_6 :
    let s := fun code => claimed 1 { whole with scope := .share 2, state := .pinned } (asks code [(1, .share 2), (63, .share 16)])
    let f := fun code : Byte => request 0x11 [0xB4, 4, code]
    let own := fun code => (inUse (s code).claims).filter fun x => decide (x.2.check = shared.number) && decide (x.2.terminal = 12)
    let many := claimed 0 { whole with check := 7 } (asks 1 [])
    let laden := many.become (many.setTerminal 12 { many.terminal 12 with claimCount := 4 })
    let full := (asks 1 []).become { (asks 1 []).toPart with
      claims := tabulate 64 fun _ => some { whole with check := 7, terminal := 13 } }
    (s 2).terminalReady .tl0 0x11 (f 2) = true ∧ (s 2).findCheck 1204 = some (0, shared) ∧ (own 2).length = 2 ∧
      (inUse (s 2).claims).length = 2 ∧ (1, { whole with scope := .share 2, state := .pinned }) ∈ own 2 ∧
      (∀ y ∈ own 2, y.1 ≠ 1 → y.2.scope ≠ .share 2) ∧ (∀ d ∈ (s 2).clockUnit.deadlines, d.owner ≠ .claimLease 1) ∧
      (((s 2).welcomed .tl0 (f 2)).terminal 12).claimCount ≤ 4 ∧ (s 0).terminalReady .tl0 0x11 (f 0) = true ∧
      (∀ x ∈ own 0, x.2.scope ≠ .whole) ∧ (∃ x ∈ own 0, x.2.state = .pinned) ∧
      laden.terminalReady .tl0 0x11 (f 1) = true ∧ 4 < ((laden.welcomed .tl0 (f 1)).terminal 12).claimCount + 1 ∧
      ((inUse laden.claims).filter fun x => decide (x.2.check = shared.number)) = [] ∧
      full.terminalReady .tl0 0x11 (f 1) = true ∧ ((full.welcomed .tl0 (f 1)).terminal 12).claimCount < 4 ∧
      firstFree full.claims = none ∧ ((inUse full.claims).filter fun x => decide (x.2.check = shared.number)) = [] := by
  decide +kernel

def pinnedClaim : State := claimed 0 { whole with state := .pinned } (table12 0x12 [0xB4, 4, 0] dinner)

theorem witness_ReleaseFreesTheClaim_1 :
    let f := request 0x12 [0xB4, 4, 0]
    let s := table12 0x12 [0xB4, 4, 0] dinner
    s.terminalReady .tl0 0x12 f = true ∧ f.body.length = 3 ∧ s.findCheck (fieldAt f.body 0 2) = some (0, dinner) ∧
      fieldAt f.body 2 1 ≤ 16 ∧ s.claimAt 0 = some whole ∧ whole.terminal = f.sender ∧ whole.check = dinner.number ∧
      whole.scope = (if fieldAt f.body 2 1 = 0 then .whole else .share (fieldAt f.body 2 1)) ∧ whole.state = .active ∧
      ∀ j y, s.claimAt j = some y → j ≠ 0 → y.terminal = f.sender → y.check ≠ dinner.number :=
  ⟨by decide +kernel, by decide, by decide +kernel, by decide, by decide +kernel, by decide, by decide, by decide, by decide,
    forall_recordAt (by decide +kernel)⟩

theorem witness_ReleaseFreesTheClaim_2 :
    pinnedClaim.terminalReady .tl0 0x12 (request 0x12 [0xB4, 4, 0]) = true ∧
      pinnedClaim.claimAt 0 = some { whole with state := .pinned } ∧
      ∀ j y, pinnedClaim.claimAt j = some y → j ≠ 0 → y.terminal = 12 → y.check ≠ dinner.number :=
  ⟨by decide +kernel, by decide +kernel, forall_recordAt (by decide +kernel)⟩

theorem witness_ReleaseFreesTheClaim_3 :
    let s := table12 0x12 [0xB4, 4, 16] dinner
    s.terminalReady .tl0 0x12 (request 0x12 [0xB4, 4, 16]) = true ∧
      ∀ j y, s.claimAt j = some y → y.terminal = 12 → y.check = dinner.number → y.scope ≠ .share 16 :=
  ⟨by decide +kernel, forall_recordAt (by decide +kernel)⟩

def shown : Check := { dinner with state := .presented, presentedAt := some 5#32 }
def anchored : Check :=
  { dinner with state := .settling, anchoredAt := some 6#32, plan := { kind := .fixed, count := 1, given := [] } }

theorem witness_PresentStampsTheCheck_1 :
    let f := request 0x13 [0xB4, 4]
    f.body.length = 2 ∧ (desk 0x13 [0xB4, 4] dinner).findCheck (fieldAt f.body 0 2) = some (0, dinner) ∧
      (desk 0x13 [0xB4, 4] dinner).terminalReady .tl0 0x13 f = true ∧ dinner.state = .opened ∧
      (desk 0x13 [0xB4, 4] shown).findCheck 1204 = some (0, shown) ∧ (desk 0x13 [0xB4, 4] shown).terminalReady .tl0 0x13 f = true ∧
      shown.state = .presented ∧ shown.presentedAt = some 5 ∧ (desk 0x13 [0xB4, 4] anchored).findCheck 1204 = some (0, anchored) ∧
      (desk 0x13 [0xB4, 4] anchored).terminalReady .tl0 0x13 f = true ∧ anchored.state = .settling := by decide +kernel

/-- A request of the order server waits on OL, and check `c` stands in slot 0. -/
def office (kind : Byte) (body : List Byte) (c : Check) : State := holding 0 c (offer .ol (order kind body) ready)

theorem witness_PresentStampsTheCheck_2 :
    let s := office 0x13 [0xB4, 4] dinner
    s.orderReady 0x13 2 (order 0x13 [0xB4, 4]) = true ∧ s.findCheck 1204 = some (0, dinner) ∧
      ∀ j y, s.claimAt j = some y → y.terminal ≠ 0 :=
  ⟨by decide +kernel, by decide +kernel, forall_recordAt (by decide +kernel)⟩

theorem witness_PresentStampsTheCheck_3 :
    let f := request 0x13 [0xB5, 4]
    let g := order 0x13 [0xB5, 4]
    (desk 0x13 f.body dinner).terminalReady .tl0 0x13 f = true ∧ (desk 0x13 f.body dinner).findCheck (fieldAt f.body 0 2) = none ∧
      (office 0x13 g.body dinner).orderReady 0x13 2 g = true ∧ (office 0x13 g.body dinner).findCheck (fieldAt g.body 0 2) = none ∧
      (office 0x13 [0xB4, 4] shown).orderReady 0x13 2 (order 0x13 [0xB4, 4]) = true ∧
      (office 0x13 [0xB4, 4] shown).findCheck 1204 = some (0, shown) ∧
      (office 0x13 [0xB4, 4] anchored).orderReady 0x13 2 (order 0x13 [0xB4, 4]) = true ∧
      (office 0x13 [0xB4, 4] anchored).findCheck 1204 = some (0, anchored) ∧
      (∀ j y, (office 0x13 [0xB4, 4] shown).claimAt j = some y → y.terminal ≠ 0) ∧
      (∀ j y, (office 0x13 [0xB4, 4] anchored).claimAt j = some y → y.terminal ≠ 0) :=
  ⟨by decide +kernel, by decide +kernel, by decide +kernel, by decide +kernel, by decide +kernel, by decide +kernel,
    by decide +kernel, by decide +kernel, forall_recordAt (by decide +kernel), forall_recordAt (by decide +kernel)⟩

/-- An item of 1,000 in class 3. -/
def steak (set : Option (BitVec 16)) : Line :=
  { number := 1, kind := .item, code := 77, cls := 3, price := 1000, quantity := 1, amount := 1000, live := true, shareSet := set }

def halves : List Figures :=
  [{ due := 500, preTax := 500, portions := none }, { due := 500, preTax := 500, portions := none }]

theorem witness_PlansSetTheShares_1 :
    let f := request 0x15 [0xB4, 4, 1, 2]
    let s := table12 0x15 [0xB4, 4, 1, 2] dinner
    s.findCheck (fieldAt f.body 0 2) = some (0, dinner) ∧ s.holdsWhole f.sender dinner.number = true ∧
      s.terminalReady .tl0 0x15 f = true ∧ f.setPlanLength = true ∧ f.planAsked = some { kind := .even, count := 2, given := [] } ∧
      dinner.anchored = false ∧ dinner.flight = 0 ∧ (∀ x ∈ dinner.tenders, x.state = .unknown → x.share ≤ 2) ∧
      recompute s.venue { kind := .even, count := 2, given := [] } dinner.totals [] = .ok halves := by
  refine ⟨by decide +kernel, by decide +kernel, by decide +kernel, by decide +kernel, by decide +kernel, by decide, by decide +kernel,
    by decide +kernel, rfl⟩

theorem witness_PlansSetTheShares_2 :
    let f := request 0x15 [0xB4, 4, 1, 2]
    let s := table12 0x15 [0xB4, 4, 1, 2] anchored
    s.findCheck (fieldAt f.body 0 2) = some (0, anchored) ∧ s.holdsWhole f.sender anchored.number = true ∧
      s.terminalReady .tl0 0x15 f = true ∧ f.setPlanLength = true ∧ f.planAsked ≠ none ∧ anchored.anchored = true := by
  decide +kernel

/-- A restored check that stands under FIXED and is not anchored. -/
def frozen : Check := { dinner with plan := { kind := .fixed, count := 1, given := [] } }

theorem witness_PlansSetTheShares_4 :
    let f := request 0x16 [0xB4, 4, 200, 1, 0]
    let g := request 0x15 [0xB4, 4, 1, 2]
    let s := table12 0x16 f.body anchored
    s.findCheck (fieldAt f.body 0 2) = some (0, anchored) ∧ s.holdsWhole f.sender anchored.number = true ∧
      s.terminalReady .tl0 0x16 f = true ∧ f.body.length = 5 ∧ within 1 200 (fieldAt f.body 2 1) = true ∧
      fieldAt f.body 3 2 ≠ 0 ∧ anchored.anchored = true ∧ (table12 0x16 f.body frozen).findCheck 1204 = some (0, frozen) ∧
      (table12 0x15 g.body frozen).terminalReady .tl0 0x15 g = true ∧ g.planAsked ≠ none ∧ frozen.anchored = false ∧
      frozen.plan.kind = .fixed ∧ dinner.plan.kind ≠ .fixed := by decide +kernel

/-- The dinner check by item over two shares. -/
def byItem : Check :=
  { dinner with
    plan := { kind := .byItem, count := 2, given := [] }
    lines := [steak (some 0b01#16)]
    totals := workTotals Venue.defaults 4 [steak none] }

def byItemFigures2 : List Figures :=
  [{ due := 0, preTax := 0, portions := some (tabulate 8 fun _ => 0) },
    { due := 1000, preTax := 1000, portions := some (tabulate 8 fun c => if c = 3 then 1000 else 0) }]

theorem witness_PlansSetTheShares_3 :
    let f := request 0x16 [0xB4, 4, 1, 2, 0]
    let s := table12 0x16 [0xB4, 4, 1, 2, 0] byItem
    s.findCheck (fieldAt f.body 0 2) = some (0, byItem) ∧ s.holdsWhole f.sender byItem.number = true ∧
      s.terminalReady .tl0 0x16 f = true ∧ f.body.length = 5 ∧ within 1 200 (fieldAt f.body 2 1) = true ∧
      fieldAt f.body 3 2 ≠ 0 ∧ fieldAt f.body 3 2 < 2 ^ byItem.plan.count ∧ byItem.anchored = false ∧ byItem.flight = 0 ∧
      byItem.plan.kind = .byItem ∧ steak (some 0b01#16) ∈ byItem.lines ∧ (steak (some 0b01#16)).number = fieldAt f.body 2 1 ∧
      recompute s.venue byItem.plan byItem.totals (assignSet byItem.lines 1 (BitVec.ofNat 16 2)) = .ok byItemFigures2 := by
  refine ⟨by decide +kernel, by decide +kernel, by decide +kernel, by decide, by decide +kernel, by decide, by decide, by decide,
    by decide, by decide, by decide, by decide, rfl⟩

theorem witness_TheDuesSumToTheTotal :
    let plan : Plan := { kind := .byItem, count := 2, given := [] }
    negativeBase [steak (some 0b11#16)] = false ∧ within 1 16 plan.count = true ∧ (plan.kind = .none → plan.count = 1) ∧
      (plan.kind = .amount → plan.given.length + 1 = plan.count) ∧
      (plan.kind = .byItem → ∀ l ∈ [steak (some 0b11#16)], ∃ set : BitVec 16, l.shareSet = some set ∧ set ≠ 0 ∧
        set.toNat < 2 ^ plan.count) ∧
      ∃ figures, recompute Venue.defaults plan (workTotals Venue.defaults 4 [steak (some 0b11#16)]) [steak (some 0b11#16)]
        = .ok figures := by
  refine ⟨by decide +kernel, by decide, by decide, by decide, fun _ l m => ?_, _, rfl⟩
  simp at m
  subst m
  exact ⟨0b11#16, rfl, by decide, by decide⟩

/-- The other rule plans: 1,000 owed by one share, by three evenly, and by two of which the first is given 999. The bases of a steak
in class 3, and a base below 0. -/
theorem witness_TheDuesSumToTheTotal_plans :
    let dues := fun (plan : Plan) => match recompute Venue.defaults plan (workTotals Venue.defaults 4 [steak none]) [steak none] with
      | .ok figures => figures.map fun g => (g.due, g.preTax)
      | .error _ => []
    negativeBase [steak none] = false ∧ dues { kind := .none, count := 1, given := [] } = [(1000, 1000)] ∧
      dues { kind := .even, count := 3, given := [] } = [(334, 334), (333, 333), (333, 333)] ∧
      dues { kind := .amount, count := 2, given := [999] } = [(999, 999), (1, 1)] ∧
      (workTotals Venue.defaults 4 [steak none]).bases[3]? = some 1000 ∧ Venue.defaults.rates[7]? = some 0 ∧
      (workTotals Venue.defaults 4 [steak none]).taxes[7]? = some 0 ∧
      negativeBase [{ steak none with kind := .discount, price := -1, amount := -1 }] = true := by decide +kernel

theorem witness_MoneyIsRoundedAndGivenOutWhole :
    (0 < 100000) ∧ 0 < [0, 2, 1].sum ∧ [0, 2, 1][1]? = some 2 ∧ (allocate 10 [0, 2, 1])[1]? = some 7 ∧ (0b101#16 ≠ 0) ∧
      0 < (dinner.share 1).due ∧ (dinner.share 2).due = 0 ∧ (dinner.share 1).preTax ≤ (dinner.share 1).due ∧ 20000 ≤ 100000 := by
  decide +kernel

/-- BY_ITEM on two shares: the second share owes the steak, or the first, which holds nothing, is given a discount. -/
theorem witness_MoneyIsRoundedAndGivenOutWhole_byItem :
    let discount : Line := { steak (some 0b01#16) with number := 2, kind := .discount, price := -1, amount := -1 }
    let lines := [steak (some 0b10#16), discount]
    byItem.plan.kind = .byItem ∧ within 1 16 byItem.plan.count = true ∧
      (match recompute Venue.defaults byItem.plan (workTotals Venue.defaults 4 [steak none]) [steak (some 0b10#16)] with
        | .ok figures => decide (figures = byItemFigures2)
        | .error _ => false) = true ∧
      classPortion lines 3 1 < 0 ∧ recompute Venue.defaults byItem.plan (workTotals Venue.defaults 4 lines) lines
        = .error .negativeBase ∧ negativeBase lines = false := by
  refine ⟨rfl, by decide, by decide +kernel, by decide +kernel, rfl, by decide +kernel⟩

/-- The worked case "cash at u = 5" (05): 3,380, 3,379 and 2,000 for a share that owes 3,378. -/
theorem witness_CashIsSorted :
    sortCash 3378 5 3380 = { applied := 3380, rounding := 2, change := 0 } ∧
      sortCash 3378 5 3379 = { applied := 3378, rounding := 0, change := 1 } ∧
      sortCash 3378 5 2000 = { applied := 2000, rounding := 0, change := 0 } ∧ 0 < 5 := by decide

/-- The same tenders on a share that carries no rounding, and on one that carries a rounding of 2. -/
theorem witness_CashIsSorted_shares :
    let owing := { Share.blank 1 with due := 3378 }
    let rounded := { Share.blank 1 with due := 3378, rounding := 2, applied := 2 }
    0 < Venue.defaults.cashUnit ∧ 0 < owing.remaining ∧ 0 < rounded.remaining ∧ rounded.rounding ≠ 0 ∧
      sortCash rounded.remaining.toNat (unitFor { Venue.defaults with cashUnit := 5 } rounded) 3380
        = { applied := 3378, rounding := 0, change := 2 } := by decide +kernel

/-- The dinner check paid whole, SETTLING. -/
def paidUp : Check :=
  { anchored with shares := tabulate 16 fun i => if i = 0 then { dinner.share 1 with applied := 1000 } else Share.blank 0 }

theorem witness_SettlementIsEvaluated :
    (office 0x13 [] paidUp).checkAt 0 = some paidUp ∧ paidUp.state = .settling ∧
      (∀ k ∈ List.range' 1 paidUp.plan.count, (paidUp.share k).remaining = 0) ∧
      (∀ x ∈ paidUp.tenders, x.state.inFlight = false) ∧
      (office 0x13 [] { anchored with state := .settled }).checkAt 0 = some { anchored with state := .settled } ∧
      (anchored.share 1).remaining ≠ 0 ∧ 1 ≤ anchored.plan.count ∧ dinner.state = .opened := by decide +kernel

def paysCash (c : Check) : State := table12 0x18 [0xB4, 4, 1, 1, 0, 0xE8, 3, 0, 0] c

theorem witness_CashIsAcceptedAtOnce :
    let f := request 0x18 [0xB4, 4, 1, 1, 0, 0xE8, 3, 0, 0]
    let s := paysCash dinner
    s.terminalReady .tl0 0x18 f = true ∧ f.body.length = 9 ∧ (s.terminal f.sender).inFlight = false ∧
      (s.terminal f.sender).held = none ∧ s.findCheck (fieldAt f.body 0 2) = some (0, dinner) ∧
      s.holdsCover f.sender dinner.number 1 = true ∧ 1 ≤ dinner.plan.count ∧ fieldAt f.body 3 2 = (dinner.share 1).revision.toNat ∧
      0 < (dinner.share 1).remaining ∧ 1 ≤ fieldAt f.body 5 4 ∧ dinner.tenders.length < 24 ∧ s.tendersInUse < 768 ∧
      (∀ x ∈ dinner.tenders, x.id ≤ dinner.tenders.length) ∧
      ∀ j y, s.claimAt j = some y → y.check = dinner.number → y.terminal ≠ f.sender → y.scope.covers 1 = false :=
  ⟨by decide +kernel, by decide, by decide +kernel, by decide +kernel, by decide +kernel, by decide +kernel, by decide,
    by decide +kernel, by decide +kernel, by decide, by decide, by decide +kernel, by decide +kernel,
    forall_recordAt (by decide +kernel)⟩

/-- PAY_CARD of 1,000 on share 1 with a tip of 100 in its amount form, eligible for the offline decision or not. -/
def cardBody (eligible : Byte) : List Byte :=
  [0xB4, 4, 1, 1, 0, 0xE8, 3, 0, 0, 0, 100, 0, 0, 0, eligible, 0x92, 0x10, 16] ++ List.replicate 16 0x5A

def paysCard (eligible : Byte) : State := table12 0x17 (cardBody eligible) dinner

theorem cardBody_payable (eligible : Byte) (h : eligible = 0 ∨ eligible = 1) :
    (paysCard eligible).terminalReady .tl0 0x17 (request 0x17 (cardBody eligible)) = true ∧
      (paysCard eligible).cardPayable (request 0x17 (cardBody eligible)) 0 dinner 1 100 := by
  unfold Part.cardPayable
  rcases h with rfl | rfl <;> decide +kernel

theorem witness_CardsGoInFlight :
    let s := (paysCard 1).become { (paysCard 1) with alState := .up }
    s.terminalReady .tl0 0x17 (request 0x17 (cardBody 1)) = true ∧ s.cardPayable (request 0x17 (cardBody 1)) 0 dinner 1 100 ∧
      s.alState ≠ .down ∧ s.freeList = 0 :: List.range' 1 47 ∧ s.claimAt 0 = some whole ∧ whole.terminal = 12 ∧
      whole.check = dinner.number ∧ ∀ j y, s.claimAt j = some y → j ≠ 0 → y.check = dinner.number → y.terminal ≠ 12 := by
  refine ⟨by decide +kernel, ?_, by decide, by decide +kernel, by decide +kernel, by decide, by decide,
    forall_recordAt (by decide +kernel)⟩
  unfold Part.cardPayable
  decide +kernel

theorem witness_OfflineCardsStayUnderTheCeiling :
    (paysCard 1).alState = .down ∧ fieldAt (request 0x17 (cardBody 1)).body 14 1 = 1 ∧
      fieldAt (request 0x17 (cardBody 1)).body 5 4 + 100 ≤ (paysCard 1).venue.floorLimit ∧
      (paysCard 1).journal.deferredTotal + 1100 ≤ (paysCard 1).venue.offlineCeiling ∧ (paysCard 1).journal.occupied < 512 ∧
      (paysCard 1).journal.tail < 512 ∧ (paysCard 0).alState = .down ∧ fieldAt (request 0x17 (cardBody 0)).body 14 1 ≠ 1 := by
  decide +kernel

/-- The dinner check paid by terminal 12's tender. -/
def paidBy (t : Tender) : Check := { paidUp with state := .settled, settledAt := some 9#32, tenders := [t] }

def voids (t : Tender) : State := table12 0x19 [0xB4, 4, 1] (paidBy t)

def cashPaid : Tender := { card .cashAccepted with payment := .cash 1000 0 0 }

theorem witness_VoidsTakeTheMoneyOut :
    let f := request 0x19 [0xB4, 4, 1]
    let s := voids cashPaid
    s.terminalReady .tl0 0x19 f = true ∧ f.body.length = 3 ∧ s.findCheck (fieldAt f.body 0 2) = some (0, paidBy cashPaid) ∧
      within 1 24 (fieldAt f.body 2 1) = true ∧ (paidBy cashPaid).tender (fieldAt f.body 2 1) = some cashPaid ∧
      s.holdsCover f.sender 1204 cashPaid.share = true ∧ (paidBy cashPaid).flight = 0 ∧ within 1 16 cashPaid.share = true ∧
      cashPaid.state = .cashAccepted ∧
      ∀ j y, s.claimAt j = some y → y.check = 1204 → y.terminal ≠ f.sender → y.scope.covers cashPaid.share = false :=
  ⟨by decide +kernel, by decide, by decide +kernel, by decide, by decide, by decide +kernel, by decide, by decide, by decide,
    forall_recordAt (by decide +kernel)⟩

theorem witness_VoidsTakeTheMoneyOut_states :
    let f := request 0x19 [0xB4, 4, 1]
    let code := [1, 2, 3, 4, 5, 6]
    (voids (card (.deferred 3))).terminalReady .tl0 0x19 f = true ∧
      (paidBy (card (.deferred 3))).tender 1 = some (card (.deferred 3)) ∧
      (voids (card (.approved code))).terminalReady .tl0 0x19 f = true ∧ (voids (card (.approved code))).freeList ≠ [] ∧
      (paidBy (card (.approved code))).tender 1 = some (card (.approved code)) ∧
      (voids (card .unknown)).findCheck 1204 = some (0, paidBy (card .unknown)) ∧ (card .unknown).state = .unknown := by
  decide +kernel

/-! ### Requests from the order server -/

def opens : State := offer .ol (order 0x30 [0xFF, 0xFF, 0xE7, 3, 40]) ready

/-- Every check slot is in use. -/
def filled : State :=
  opens.become { opens.toPart with checks := tabulate 160 fun i => some (Check.fresh (i + 1) 1 1 0#32) }

theorem witness_ChecksOpenMoveAndClose_1 :
    let f := order 0x30 [0xFF, 0xFF, 0xE7, 3, 40]
    let taken := holding 0 (Check.fresh 65535 1 1 0#32) opens
    opens.orderReady 0x30 5 f = true ∧ within 1 65535 (fieldAt f.body 0 2) = true ∧ within 1 999 (fieldAt f.body 2 2) = true ∧
      within 1 40 (fieldAt f.body 4 1) = true ∧ opens.findCheck (fieldAt f.body 0 2) = none ∧ firstFree opens.checks = some 0 ∧
      taken.orderReady 0x30 5 f = true ∧ taken.findCheck (fieldAt f.body 0 2) ≠ none ∧
      filled.orderReady 0x30 5 f = true ∧ filled.findCheck (fieldAt f.body 0 2) = none ∧
      (office 0x34 [0xB4, 4, 0xE7, 3] dinner).orderReady 0x34 4 (order 0x34 [0xB4, 4, 0xE7, 3]) = true ∧
      (office 0x34 [0xB4, 4, 0xE7, 3] dinner).findCheck 1204 = some (0, dinner) := by decide +kernel

theorem witness_ChecksOpenMoveAndClose_2 : ∀ i, i < 160 → filled.checkAt i ≠ none := by decide +kernel

theorem witness_ChecksOpenMoveAndClose_5 :
    let bad := order 0x30 [0, 0, 0xE7, 3, 40]
    let far := order 0x34 [0xB4, 4, 0xE8, 3]
    let lost := order 0x34 [0xB5, 4, 1, 0]
    (offer .ol bad ready).orderReady 0x30 5 bad = true ∧ within 1 65535 (fieldAt bad.body 0 2) = false ∧
      (offer .ol far ready).orderReady 0x34 4 far = true ∧ within 1 999 (fieldAt far.body 2 2) = false ∧
      (office 0x34 lost.body dinner).orderReady 0x34 4 lost = true ∧ within 1 999 (fieldAt lost.body 2 2) = true ∧
      (office 0x34 lost.body dinner).findCheck (fieldAt lost.body 0 2) = none ∧
      (office 0x35 [0xB5, 4] dinner).orderReady 0x35 2 (order 0x35 [0xB5, 4]) = true ∧
      (office 0x35 [0xB5, 4] dinner).findCheck 1205 = none ∧
      (office 0x36 [0xB5, 4] dinner).orderReady 0x36 2 (order 0x36 [0xB5, 4]) = true ∧
      (office 0x36 [0xB5, 4] dinner).findCheck 1205 = none ∧
      (office 0x36 [0xB4, 4] (tendered .authorizing)).orderReady 0x36 2 (order 0x36 [0xB4, 4]) = true ∧
      (office 0x36 [0xB4, 4] (tendered .authorizing)).findCheck 1204 = some (0, tendered .authorizing) ∧
      ¬(∃ x ∈ (tendered .authorizing).tenders, x.state.accepted = true) ∧ (tendered .authorizing).flight ≠ 0 := by
  decide +kernel

def closes (c : Check) : State := office 0x35 [0xB4, 4] c
def discards (c : Check) : State := office 0x36 [0xB4, 4] c

/-- Terminal 12 holds the WHOLE claim in record 63 when its check is closed or discarded. -/
theorem witness_ChecksOpenMoveAndClose_3 :
    let done : Check := { paidUp with state := .settled, settledAt := some 9#32 }
    let empty := Check.fresh 1204 7 4 0#32
    let s := claimed 63 whole (closes done)
    s.findCheck 1204 = some (0, done) ∧ s.orderReady 0x35 2 (order 0x35 [0xB4, 4]) = true ∧ done.state = .settled ∧
      ((inUse s.claims).filter fun x => decide (x.2.check = done.number)) = [(63, whole)] ∧
      (closes empty).findCheck 1204 = some (0, empty) ∧ (closes empty).orderReady 0x35 2 (order 0x35 [0xB4, 4]) = true ∧
      empty.state = .opened ∧ empty.totals.total = 0 ∧ ¬(∃ x ∈ empty.tenders, x.state.accepted = true) ∧
      (claimed 63 whole (discards dinner)).findCheck 1204 = some (0, dinner) ∧
      (claimed 63 whole (discards dinner)).orderReady 0x36 2 (order 0x36 [0xB4, 4]) = true := by decide +kernel

theorem witness_ChecksOpenMoveAndClose_4 :
    (closes anchored).findCheck 1204 = some (0, anchored) ∧ (closes anchored).orderReady 0x35 2 (order 0x35 [0xB4, 4]) = true ∧
      anchored.state = .settling ∧ (closes dinner).findCheck 1204 = some (0, dinner) ∧
      (closes dinner).orderReady 0x35 2 (order 0x35 [0xB4, 4]) = true ∧ dinner.state = .opened ∧ dinner.totals.total ≠ 0 ∧
      (discards dinner).findCheck 1204 = some (0, dinner) ∧ (discards dinner).orderReady 0x36 2 (order 0x36 [0xB4, 4]) = true ∧
      ¬(∃ x ∈ dinner.tenders, x.state.accepted = true) ∧ dinner.flight = 0 ∧
      (discards (paidBy cashPaid)).findCheck 1204 = some (0, paidBy cashPaid) ∧
      (discards (paidBy cashPaid)).orderReady 0x36 2 (order 0x36 [0xB4, 4]) = true ∧
      (∃ x ∈ (paidBy cashPaid).tenders, x.state.accepted = true) :=
  ⟨by decide +kernel, by decide +kernel, by decide, by decide +kernel, by decide +kernel, by decide, by decide, by decide +kernel,
    by decide +kernel, by decide, by decide, by decide +kernel, by decide +kernel, by decide⟩

/-- ADD_LINE of an item, or of a discount of 1,000, in class 3; VOID_LINE of line 1; SET_COVERS. -/
def addBody (price : List Byte) (kind quantity : Byte) : List Byte := [0xB4, 4, kind, 77, 0, 0, 0, 3] ++ price ++ [quantity]
def adds (kind quantity : Byte) (price : List Byte) (c : Check) : State := office 0x31 (addBody price kind quantity) c

/-- The new line of `adds`. -/
def added (kind : LineKind) (price : Int) (quantity : Nat) (c : Check) : Line where
  number := c.lines.length + 1
  kind := kind
  code := 77
  cls := 3
  price := price
  quantity := quantity
  amount := price * quantity
  live := true
  shareSet := if c.plan.kind = .byItem then some (BitVec.ofNat 16 (2 ^ c.plan.count - 1)) else none

/-- A check with one item of 1,000, not anchored and anchored, and one whose plan asks for 5,000 of a share. -/
def meal : Check := { dinner with lines := [steak none], totals := workTotals Venue.defaults 4 [steak none] }
def charged : Check := { anchored with lines := [steak none], totals := workTotals Venue.defaults 4 [steak none] }
def strict : Check := { meal with plan := { kind := .amount, count := 2, given := [5000] } }

/-- Terminal 12 holds the whole check, and is told. -/
theorem witness_ChangesAreTakenOrCharged_1 :
    let item := addBody [0xE8, 3, 0, 0] 0 99
    let s := claimed 63 whole (known .tl1 3 0x11 .active (adds 0 99 [0xE8, 3, 0, 0] meal))
    s.findCheck (fieldAt item 0 2) = some (0, meal) ∧ meal.anchored = false ∧ meal.plan.count = 1 ∧ meal.flight = 0 ∧
      within 1 16 meal.plan.count = true ∧ s.orderReady 0x31 13 (order 0x31 item) = true ∧
      asksLine (order 0x31 item) meal .item (added .item 1000 99 meal) ∧ meal.lines.length < 200 ∧ s.linesInUse < 3072 ∧
      negativeBase (meal.lines ++ [added .item 1000 99 meal]) = false ∧
      (workTotals s.venue 4 (meal.lines ++ [added .item 1000 99 meal])).overLimit = false ∧
      (∃ figures, recompute s.venue meal.plan (workTotals s.venue 4 (meal.lines ++ [added .item 1000 99 meal]))
        (meal.lines ++ [added .item 1000 99 meal]) = .ok figures) ∧
      ((inUse s.claims).filter fun x => decide (x.2.check = meal.number)) = [(63, whole)] ∧ s.heldWaiting .tl1 < s.places .tl1 :=
  ⟨by decide +kernel, by decide, by decide, by decide, by decide, by decide +kernel, by unfold asksLine; decide +kernel, by decide,
    by decide +kernel, by decide +kernel, by decide +kernel, ⟨_, rfl⟩, by decide +kernel, by decide +kernel⟩

/-- A check near the limit of R58. -/
def feast : Check := { meal with lines := [steak none, added .item 999999 99 meal] }

theorem witness_ChangesAreTakenOrCharged_2 :
    let less := addBody [0x17, 0xFC, 0xFF, 0xFF] 1 1
    let more := addBody [0x3F, 0x42, 0x0F, 0] 0 99
    asksLine (order 0x31 less) meal .discount (added .discount (-1001) 1 meal) ∧
      (adds 1 1 [0x17, 0xFC, 0xFF, 0xFF] meal).orderReady 0x31 13 (order 0x31 less) = true ∧
      (adds 1 1 [0x17, 0xFC, 0xFF, 0xFF] meal).findCheck 1204 = some (0, meal) ∧
      negativeBase (meal.lines ++ [added .discount (-1001) 1 meal]) = true ∧
      asksLine (order 0x31 more) feast .item (added .item 999999 99 feast) ∧
      (adds 0 99 [0x3F, 0x42, 0x0F, 0] feast).orderReady 0x31 13 (order 0x31 more) = true ∧
      (adds 0 99 [0x3F, 0x42, 0x0F, 0] feast).findCheck 1204 = some (0, feast) ∧
      negativeBase (feast.lines ++ [added .item 999999 99 feast]) = false ∧
      (workTotals (adds 0 99 [0x3F, 0x42, 0x0F, 0] feast).venue 4 (feast.lines ++ [added .item 999999 99 feast])).overLimit = true := by
  unfold asksLine
  decide +kernel

theorem witness_ChangesAreTakenOrCharged_3 :
    let f := order 0x32 [0xB4, 4, 1]
    let g := order 0x33 [0xB4, 4, 40]
    let dead := meal.lines.map fun l => if l.number = 1 then { l with live := false } else l
    (office 0x32 [0xB4, 4, 1] meal).orderReady 0x32 3 f = true ∧ within 1 200 (fieldAt f.body 2 1) = true ∧
      (meal.lines.find? fun l => decide (l.number = fieldAt f.body 2 1)) = some (steak none) ∧ (steak none).live = true ∧
      negativeBase dead = false ∧ (workTotals Venue.defaults 4 dead).overLimit = false ∧
      (∃ figures, recompute Venue.defaults meal.plan (workTotals Venue.defaults 4 dead) dead = .ok figures) ∧
      (office 0x33 [0xB4, 4, 40] strict).orderReady 0x33 3 g = true ∧
      (office 0x33 [0xB4, 4, 40] strict).findCheck 1204 = some (0, strict) ∧ within 1 40 (fieldAt g.body 2 1) = true ∧
      strict.anchored = false ∧ strict.flight = 0 ∧
      recompute Venue.defaults strict.plan (workTotals Venue.defaults 40 strict.lines) strict.lines = .error .planConflict := by
  refine ⟨by decide +kernel, by decide, by decide, by decide, by decide +kernel, by decide +kernel, ⟨_, rfl⟩, by decide +kernel,
    by decide +kernel, by decide, by decide, by decide, rfl⟩

theorem witness_ChangesAreTakenOrCharged_4 :
    let f := order 0x33 [0xB4, 4, 9]
    let s := office 0x33 [0xB4, 4, 9] charged
    s.findCheck (fieldAt f.body 0 2) = some (0, charged) ∧ charged.anchored = true ∧ charged.flight = 0 ∧
      within 1 16 charged.plan.count = true ∧ s.orderReady 0x33 3 f = true ∧ within 1 40 (fieldAt f.body 2 1) = true ∧
      negativeBase charged.lines = false ∧ (workTotals s.venue 9 charged.lines).overLimit = false ∧
      (workTotals s.venue 9 charged.lines).total = charged.totals.total ∧
      (workTotals s.venue 9 charged.lines).itemNet = charged.totals.itemNet := by decide +kernel

/-- The charged check with share 1 due 900 alone, and with a tender accepted on it. -/
def slim : Check :=
  { charged with shares := tabulate 16 fun i => if i = 0 then { dinner.share 1 with due := 900 } else Share.blank 0 }
def closedShare : Check := { charged with tenders := [cashPaid] }

theorem witness_ChangesAreTakenOrCharged_5 :
    let f := order 0x32 [0xB4, 4, 1]
    let dead := charged.lines.map fun l => if l.number = 1 then { l with live := false } else l
    let s := office 0x32 [0xB4, 4, 1] charged
    s.findCheck (fieldAt f.body 0 2) = some (0, charged) ∧ s.orderReady 0x32 3 f = true ∧
      (charged.lines.find? fun l => decide (l.number = fieldAt f.body 2 1)) = some (steak none) ∧
      negativeBase dead = false ∧ (workTotals s.venue 4 dead).overLimit = false ∧ (workTotals s.venue 4 dead).total = 0 ∧
      1 ≤ charged.plan.count ∧ ¬(∃ x ∈ charged.tenders, x.share = 1 ∧ x.state.accepted = true) ∧
      0 ≤ ((charged.share 1).due : Int) + (0 - 1000) ∧
      (office 0x32 [0xB4, 4, 1] slim).findCheck 1204 = some (0, slim) ∧ ((slim.share 1).due : Int) + (0 - 1000) < 0 ∧
      (office 0x32 [0xB4, 4, 1] closedShare).findCheck 1204 = some (0, closedShare) ∧
      (∀ k, 1 ≤ k → k ≤ closedShare.plan.count → ∃ x ∈ closedShare.tenders, x.share = k ∧ x.state.accepted = true) := by
  refine ⟨by decide +kernel, by decide +kernel, by decide, by decide +kernel, by decide +kernel, by decide +kernel, by decide,
    by decide, by decide +kernel, by decide +kernel, by decide +kernel, by decide +kernel,
    fun k a b => ?_⟩
  obtain rfl : k = 1 := Nat.le_antisymm b a
  decide

/-- A restored check under FIXED that is not anchored. -/
theorem witness_ChangesAreTakenOrCharged_frozen :
    let f := order 0x32 [0xB4, 4, 1]
    let c := { charged with state := .opened, anchoredAt := none }
    let dead := c.lines.map fun l => if l.number = 1 then { l with live := false } else l
    (office 0x32 [0xB4, 4, 1] c).findCheck (fieldAt f.body 0 2) = some (0, c) ∧ (office 0x32 [0xB4, 4, 1] c).orderReady 0x32 3 f = true ∧
      c.anchored = false ∧ c.plan.kind = .fixed ∧ meal.plan.kind ≠ .fixed ∧ (workTotals Venue.defaults 4 dead).total = 0 ∧
      0 ≤ ((c.share 1).due : Int) + (0 - 1000) ∧ c.tenders = [] := by decide +kernel

/-- VOID_LINE on that check takes the delta from share 1 and replies OK, the new total 0 and index 0; on an anchored one the index is
the share's (R37, R38). -/
theorem test_voidLine_index_of_unanchored_is_zero :
    let reply := fun c : Check => match exec .voidLine (office 0x32 [0xB4, 4, 1] c) with
      | .next t => ((t.link .ol).outbound.map fun f => f.body, (t.checkAt 0).map fun d => (d.share 1).due)
      | .fault _ | .refused _ => ([], none)
    reply { charged with state := .opened, anchoredAt := none } = ([[0, 0, 0, 0, 0, 0]], some 0) ∧
      (reply charged).1.getLast? = some [0, 0, 0, 0, 0, 1] := by decide +kernel

theorem witness_ChangesAreTakenOrCharged_6 :
    let f := order 0x31 (addBody [0xE8, 3, 0, 0] 0 1)
    let s := adds 0 1 [0xE8, 3, 0, 0] charged
    let line := added .item 1000 1 charged
    s.findCheck (fieldAt f.body 0 2) = some (0, charged) ∧ s.orderReady 0x31 13 f = true ∧ asksLine f charged .item line ∧
      charged.lines.length < 200 ∧ s.linesInUse < 3072 ∧ negativeBase (charged.lines ++ [line]) = false ∧
      (workTotals s.venue 4 (charged.lines ++ [line])).overLimit = false ∧
      (workTotals s.venue 4 (charged.lines ++ [line])).total = 2000 := by
  unfold asksLine
  decide +kernel

theorem witness_ChecksAndExceptionsAreRead_check :
    let code := [1, 2, 3, 4, 5, 6]
    let paid := fun first : Byte => office 0x37 [0xB4, 4, 3, first] (paidBy (card (.approved code)))
    let s := fun section_ first : Byte => office 0x37 [0xB4, 4, section_, first] meal
    (s 0 0).orderReady 0x37 4 (order 0x37 [0xB4, 4, 0, 0]) = true ∧ (s 0 0).findCheck 1204 = some (0, meal) ∧
      (s 1 255).orderReady 0x37 4 (order 0x37 [0xB4, 4, 1, 255]) = true ∧ (s 1 255).findCheck 1204 = some (0, meal) ∧
      (s 2 1).orderReady 0x37 4 (order 0x37 [0xB4, 4, 2, 1]) = true ∧ (s 3 1).orderReady 0x37 4 (order 0x37 [0xB4, 4, 3, 1]) = true ∧
      (1 : Nat) ≤ fieldAt [0xB4, 4, 3, 1] 3 1 ∧ steak none ∈ meal.lines ∧
      (paid 1).orderReady 0x37 4 (order 0x37 [0xB4, 4, 3, 1]) = true ∧ (paid 1).findCheck 1204 = some (0, paidBy (card (.approved code))) ∧
      card (.approved code) ∈ (paidBy (card (.approved code))).tenders ∧ code.length = 6 := by decide +kernel

def resolves (action : Byte) (c : Check) : State := office 0x38 ([0xB4, 4, 1, action] ++ [1, 2, 3, 4, 5, 6]) c

/-- Terminal 12 holds the check, and is told when its tender is accepted; the other clauses, on both rows. -/
theorem witness_UnknownTendersAreResolved :
    let f := fun action : Byte => order 0x38 ([0xB4, 4, 1, action] ++ [1, 2, 3, 4, 5, 6])
    let c := tendered .unknown
    let s := claimed 63 whole (known .tl1 3 0x11 .active (resolves 1 c))
    let two : Check := { dinner with tenders := [card .unknown, { card .authorizing with id := 2 }] }
    (resolves 2 c).orderReady 0x38 10 (f 2) = true ∧ (resolves 2 c).findCheck 1204 = some (0, c) ∧
      c.tender 1 = some (card .unknown) ∧ c.flight = 0 ∧ within 1 16 (card .unknown).share = true ∧
      s.orderReady 0x38 10 (f 1) = true ∧ s.findCheck 1204 = some (0, c) ∧ 1 ≤ c.plan.count ∧
      ((card .unknown).amount : Int) ≤ (c.share 1).remaining ∧
      (resolves 1 (paidBy (card .unknown))).findCheck 1204 = some (0, paidBy (card .unknown)) ∧
      (paidBy (card .unknown)).flight = 0 ∧ ((paidBy (card .unknown)).share 1).remaining < ((card .unknown).amount : Int) ∧
      (resolves 2 (tendered .failed)).findCheck 1204 = some (0, tendered .failed) ∧ (card .failed).state ≠ .unknown ∧
      (resolves 1 two).findCheck 1204 = some (0, two) ∧ two.tender 1 = some (card .unknown) ∧ two.flight ≠ 0 ∧
      (resolves 2 dinner).findCheck 1204 = some (0, dinner) ∧ dinner.tender 1 = none := by decide +kernel

theorem witness_UnknownTendersAreResolved_refused :
    let f := fun (number id action : Byte) => order 0x38 ([number, 4, id, action] ++ [1, 2, 3, 4, 5, 6])
    let s := fun (number id action : Byte) => office 0x38 ([number, 4, id, action] ++ [1, 2, 3, 4, 5, 6]) dinner
    (s 0xB4 25 2).orderReady 0x38 10 (f 0xB4 25 2) = true ∧ within 1 24 (fieldAt (f 0xB4 25 2).body 2 1) = false ∧
      (s 0xB4 24 3).orderReady 0x38 10 (f 0xB4 24 3) = true ∧ within 1 2 (fieldAt (f 0xB4 24 3).body 3 1) = false ∧
      (s 0xB5 24 1).orderReady 0x38 10 (f 0xB5 24 1) = true ∧ within 1 24 (fieldAt (f 0xB5 24 1).body 2 1) = true ∧
      within 1 2 (fieldAt (f 0xB5 24 1).body 3 1) = true ∧ (s 0xB5 24 1).findCheck 1205 = none := by decide +kernel

def controls (n action : Byte) : State := offer .ol (order 0x39 [n, 0, action]) ready

theorem witness_TerminalsAreControlled :
    let bars := claimed 63 { whole with terminal := 1 } (controls 1 2)
    (controls 96 1).orderReady 0x39 3 (order 0x39 [96, 0, 1]) = true ∧ within 1 96 (fieldAt [96, 0, 1] 0 2) = true ∧
      bars.orderReady 0x39 3 (order 0x39 [1, 0, 2]) = true ∧ (bars.terminal 1).state = .unseen ∧
      ((inUse bars.claims).filter fun x => decide (x.2.terminal = 1) && decide (x.2.state = .active)) ≠ [] ∧
      (controls 1 3).orderReady 0x39 3 (order 0x39 [1, 0, 3]) = true ∧
      (controls 97 2).orderReady 0x39 3 (order 0x39 [97, 0, 2]) = true ∧ within 1 96 (fieldAt [97, 0, 2] 0 2) = false ∧
      (controls 0 3).orderReady 0x39 3 (order 0x39 [0, 0, 3]) = true ∧ within 1 96 (fieldAt [0, 0, 3] 0 2) = false ∧
      (controls 1 4).orderReady 0x39 3 (order 0x39 [1, 0, 4]) = true ∧ 3 < fieldAt [1, 0, 4] 2 1 ∧
      (controls 1 0).orderReady 0x39 3 (order 0x39 [1, 0, 0]) = true ∧ fieldAt [1, 0, 0] 2 1 = 0 := by decide +kernel

/-- An exception entry of a number, and a list of `n` of them. -/
def oddity (n : Nat) : ExceptionEntry :=
  { number := BitVec.ofNat 16 n, kind := 3, detail := 0, check := 1204, table := 7, terminal := 12, tender := 1, amount := 1100,
    sequence := none, code := some [1, 2, 3, 4, 5, 6], stamp := 0, slotStamp := 0 }
def odd (n : Nat) (s : State) : State := s.become { s.toPart with exceptions := (List.range n).map oddity }

theorem witness_ChecksAndExceptionsAreRead_exceptions :
    let reads := odd 64 (offer .ol (order 0x3A [64, 1]) ready)
    let clears := odd 2 (offer .ol (order 0x3B [1, 0]) ready)
    let misses := odd 2 (offer .ol (order 0x3B [2, 0]) ready)
    reads.orderReady 0x3A 2 (order 0x3A [64, 1]) = true ∧ reads.exceptions.length = 64 ∧
      (odd 63 ready).exceptions.length < 64 ∧ clears.orderReady 0x3B 2 (order 0x3B [1, 0]) = true ∧
      clears.exceptions = [oddity 0] ++ oddity 1 :: [] ∧ (oddity 1).number.toNat = fieldAt [1, 0] 0 2 ∧
      (∀ x ∈ [oddity 0], x.number.toNat ≠ fieldAt [1, 0] 0 2) ∧ misses.orderReady 0x3B 2 (order 0x3B [2, 0]) = true ∧
      (∀ x ∈ misses.exceptions, x.number.toNat ≠ fieldAt [2, 0] 0 2) := by decide +kernel

theorem witness_ChecksAndExceptionsAreRead_refused :
    (offer .ol (order 0x3A [65, 0]) ready).orderReady 0x3A 2 (order 0x3A [65, 0]) = true ∧
      within 1 64 (fieldAt [65, 0] 0 1) = false ∧
      (offer .ol (order 0x3A [1, 2]) ready).orderReady 0x3A 2 (order 0x3A [1, 2]) = true ∧ 1 < fieldAt [1, 2] 1 1 ∧
      (odd 63 ready).exceptions.length < 64 ∧ 64 ≤ (odd 64 ready).exceptions.length := by
  decide +kernel

/-! ### The journal's form -/

/-- The slot VOID at the head, not yet erased, and the PENDING slot behind it. -/
def headSlot : Slot := { state := .void, sequence := 8, contents := { contents13 with token := [] } }
def nextHeld : Slot := { state := .pending, sequence := 9, contents := contents13 }

def twoHeldSlots : Journal :=
  { Journal.initial with
    mirror := (Journal.initial.mirror.setIfInBounds 2 (some nextHeld)).setIfInBounds 1 (some headSlot)
    head := 1, tail := 3, occupied := 2, deferredTotal := 1100, nextSequence := 10 }

/-- The part in READY with these two slots and a high-water mark. -/
def standing (mark : Nat) : State :=
  let s := tuned (fun v => { v with highWater := mark }) ready
  s.become { s.toPart with journal := twoHeldSlots }

theorem twoHeldSlots_slotAt (k : Nat) :
    twoHeldSlots.slotAt k = if k = 1 then some headSlot else if k = 2 then some nextHeld else none := by
  show recordAt ((Journal.initial.mirror.setIfInBounds 2 _).setIfInBounds 1 _) k = _
  by_cases h1 : k = 1
  · rw [h1, recordAt_setIfInBounds_same _ _ (by decide), if_pos rfl]
  · rw [recordAt_setIfInBounds_other _ _ (Ne.symm h1), if_neg h1]
    by_cases h2 : k = 2
    · rw [h2, recordAt_setIfInBounds_same _ _ (by decide), if_pos rfl]
    · rw [recordAt_setIfInBounds_other _ _ (Ne.symm h2), if_neg h2]
      exact recordAt_tabulate_none 512 k

theorem standing_journaled : (standing 512).journaled = true := by
  have runs : twoHeldSlots.runs = true := by
    simp only [Journal.runs, twoHeldSlots_slotAt]
    decide +kernel
  have : (standing 512).journal = twoHeldSlots := rfl
  simp only [Part.journaled, this, runs, twoHeldSlots_slotAt]
  decide +kernel

theorem witness_EveryStepKeepsTheJournal :
    (standing 512).phased = true ∧ (standing 512).timed = true ∧ (standing 512).journaled = true ∧
      (∃ t, step (standing 512) = .next t) ∧ (standing 512).journal.tail < 512 ∧
      (standing 3).venue.highWater ≤ (standing 3).journal.occupied + 1 ∧ (standing 3).journal.highWater = false ∧
      (standing 512).journal.occupied + 1 < (standing 512).venue.highWater :=
  ⟨by decide +kernel, by decide +kernel, standing_journaled, ⟨_, rfl⟩, by decide +kernel, by decide +kernel, by decide +kernel,
    by decide +kernel⟩

/-! ### The service clock -/

theorem witness_TicksAndSecondsCount_1 :
    (clocked (fun u => { u with second := 999 }) ready).control.startup.running = true ∧
      (lastClock 23999).control.startup.running = true ∧ (lastClock 23999).clockUnit.calibration = .counting 3 70 ∧
      State.reset.control.startup = .reset ∧ (phase .halted ready).control.startup = .halted ∧
      ready.clockUnit.secondsDue = 0 := by decide +kernel

/-- A whole second is due, and the check stands alone in slot 0. -/
def aSecond (c : Check) : State := clocked (fun u => { u with secondsDue := 1 }) (holding 0 c ready)

theorem witness_TicksAndSecondsCount_2 :
    let near := { shown with dwell := 599 }
    (aSecond shown).clockUnit.secondsDue = 0 + 1 ∧ (aSecond shown).control.startup = .ready ∧
      (aSecond shown).checkAt 0 = some shown ∧ shown.state = .presented ∧ (shown.share 1).remaining ≠ 0 ∧ 1 ≤ shown.plan.count ∧
      (aSecond shown).venue.dwellThreshold = 600 ∧ saturate 65535 shown.dwell < 600 ∧
      (aSecond near).checkAt 0 = some near ∧ 600 ≤ saturate 65535 near.dwell ∧ near.alerted = false ∧
      (aSecond dinner).checkAt 0 = some dinner ∧ dinner.state = .opened ∧
      (phase .restoring (aSecond shown)).control.startup = .restoring := by decide +kernel

/-- Two checks gain the second in SAVING, the first and the last slot's. -/
theorem witness_TicksAndSecondsCount_saving :
    let s := phase .saving (holding 159 { shown with number := 7, dwell := 65535 } (aSecond shown))
    s.clockUnit.secondsDue = 0 + 1 ∧ s.control.startup = .saving ∧ s.checkAt 0 = some shown ∧
      s.checkAt 159 = some { shown with number := 7, dwell := 65535 } ∧ saturate 65535 65535 = 65535 := by decide +kernel

theorem witness_TicksAndSecondsCount_3 :
    (∀ i c, (aSecond shown).checkAt i = some c → i = 0) ∧
      ∀ j y, (aSecond shown).claimAt j = some y → y.check ≠ shown.number :=
  ⟨forall_recordAt (by decide +kernel), forall_recordAt (by decide +kernel)⟩

/-- The first deadline of the list, and the only one, due now. -/
def dueNow (owner : Owner) (s : State) : State := clocked (fun u => { u with deadlines := [{ due := u.clock, owner := owner }] }) s

theorem witness_DeadlinesStandInOrder_delivery :
    (dueNow .alAlive ready).clockUnit.deadlines = { due := 0, owner := .alAlive } :: [] ∧
      (dueNow .alAlive ready).dueOwner = some .alAlive ∧
      (clocked (fun u => { u with deadlines := [{ due := 1, owner := .alAlive }] }) ready).dueOwner = none := by decide

/-- Two leases and the alive deadline stand in the list, one of them 2^30 - 1 ms late, across the wrap of the clock. -/
def scheduled : State :=
  let s := claimed 1 { whole with check := 5 } (claimed 0 whole (ready.become { ready.toPart with alState := .up }))
  clocked (fun u => { u with deadlines := [{ due := -1073741823, owner := .claimLease 1 }, { due := 0, owner := .alAlive },
    { due := 600000, owner := .claimLease 0 }] }) s

theorem witness_DeadlinesStandInOrder :
    scheduled.phased = true ∧ scheduled.timed = true ∧ scheduled.prompt = true ∧ (∃ t, step scheduled = .next t) ∧
      (∀ e ∈ { due := 0, owner := .alSettle } :: scheduled.clockUnit.deadlines,
        -2 ^ 30 < (e.due - scheduled.now).toInt ∧ (e.due - scheduled.now).toInt < 2 ^ 30) ∧
      (scheduled.clockUnit.deadlines.Pairwise fun a b => (a.due - scheduled.now).toInt ≤ (b.due - scheduled.now).toInt) :=
  ⟨by decide +kernel, by decide +kernel, by decide +kernel, ⟨_, rfl⟩, by decide +kernel, by decide +kernel⟩

/-- A CALIBRATE request waits, and the calibration stands in a state. -/
def calibrating (k : Calibration) : State :=
  clocked (fun u => { u with calibration := k }) (offer .ol (order 0x3D []) ready)

theorem witness_CalibrationCountsTheReference_1 :
    (calibrating .idle).orderReady 0x3D 0 (order 0x3D []) = true ∧ (calibrating .idle).clockUnit.calibration = .idle ∧
      (∀ d ∈ (calibrating .idle).clockUnit.deadlines, d.owner ≠ .calGuard) ∧
      (calibrating .waiting).orderReady 0x3D 0 (order 0x3D []) = true ∧
      (calibrating .waiting).clockUnit.calibration = .waiting ∧ (calibrating .waiting).control.startup.running = true ∧
      (calibrating (.counting 14 70)).clockUnit.calibration = .counting 14 70 ∧
      (calibrating (.counting 15 372480000)).clockUnit.calibration = .counting 15 372480000 := by decide +kernel

theorem witness_CalibrationCountsTheReference_2 :
    23280 ≤ (2 * 372480000 + 16000) / 32000 ∧ (2 * 372480000 + 16000) / 32000 ≤ 24720 ∧
      (2 * 395528000 + 16000) / 32000 = 24721 ∧ (2 * 372471999 + 16000) / 32000 = 23279 ∧
      (dueNow .calGuard (calibrating .waiting)).clockUnit.deadlines = { due := 0, owner := .calGuard } :: [] ∧
      ((0 : Time) - (dueNow .calGuard (calibrating .waiting)).now).toInt ≤ 0 ∧
      (dueNow .calGuard (calibrating (.counting 3 9))).clockUnit.calibration = .counting 3 9 := by decide

/-- Terminal 12's lease on record 0 falls due; it was heard on TL1 or not at all; `n` frames wait there. -/
def leaseDue (n : Nat) (s : State) : State :=
  let t := dueNow (.claimLease 0) (claimed 0 whole s)
  t.become (t.setLink (.tl .tl1) { t.link (.tl .tl1) with outbound := List.replicate n (order 1 [0]) })

theorem witness_LeasesExpire :
    let s := leaseDue 15 (known .tl1 3 0x11 .active ready)
    let full := leaseDue 16 (known .tl1 3 0x11 .active ready)
    s.control.startup.running = true ∧ s.kept = none ∧ s.clockUnit.deadlines = { due := 0, owner := .claimLease 0 } :: [] ∧
      ((0 : Time) - s.now).toInt ≤ 0 ∧ s.claimAt 0 = some whole ∧
      (s.terminal whole.terminal).heard = some { link := .tl1, time := 0, tag := 3, kind := 0x11 } ∧
      within 1 96 whole.terminal = true ∧ s.heldWaiting .tl1 < 16 - (s.link (.tl .tl1)).outbound.length ∧
      16 - (full.link (.tl .tl1)).outbound.length ≤ full.heldWaiting .tl1 ∧
      ((leaseDue 0 ready).terminal whole.terminal).heard = none := by decide +kernel

/-! ### The gateway link -/

/-- A gateway frame waits on AL, and the link is in a state. -/
def gateway (x : AlState) (f : Frame) (s : State) : State := offer .al f (s.become { s.toPart with alState := x })

theorem witness_TheGatewayLinkComesAndGoes :
    let s := fun x => gateway x (answer 0x5C []) ready
    (s .up).gatewayReady 0x5C (answer 0x5C []) = true ∧ (s .up).alState ≠ .down ∧
      (s .down).gatewayReady 0x5C (answer 0x5C []) = true ∧ (s .down).alState = .down ∧ (s .down).venue.settleInterval ≠ 0 ∧
      (tuned (fun v => { v with settleInterval := 0 }) (s .down)).gatewayReady 0x5C (answer 0x5C []) = true ∧
      (tuned (fun v => { v with settleInterval := 0 }) (s .down)).venue.settleInterval = 0 ∧
      (dueNow .alSettle (s .settling)).clockUnit.deadlines = { due := 0, owner := .alSettle } :: [] ∧
      (dueNow .alSettle (s .settling)).alState = .settling ∧
      (dueNow .alAlive (s .settling)).clockUnit.deadlines = { due := 0, owner := .alAlive } :: [] ∧
      (dueNow .alAlive (s .up)).alState = .up ∧ ((0 : Time) - (dueNow .alAlive (s .up)).now).toInt ≤ 0 := by decide +kernel

/-- Entry 47, of generation 3, is in use. -/
def serves (x : Entry) (s : State) : State := s.become (s.setEntry 47 { generation := 3, use := some x })

def entryOf (kind : EntryKind) (state : EntryState) : Entry :=
  { kind := kind, state := state, tender := some { slot := 0, id := 1 },
    report := { check := 1204, table := 7, terminal := 12, tender := 1 }, amount := 1100 }

def live (state : EntryState) : Entry := entryOf (.live (List.replicate 16 0x5A) true) state
def reversing (state : EntryState) : Entry := entryOf (.reversal [1, 2, 3, 4, 5, 6] .authorization 0) state
def draining (state : EntryState) : Entry := entryOf (.drain 2 9) state

/-- AUTH_REPLY for entry 47: approved, and declined for reason 5. -/
def approval : Frame := answer 0x58 [47, 3, 0, 0x36, 0x30, 0x34, 0x38, 0x31, 0x37, 0]
def refusal : Frame := answer 0x58 [47, 3, 1, 0, 0, 0, 0, 0, 0, 5]

/-- Terminal 12, heard on TL1, holds a PINNED claim on the check whose tender stands in a state; entry 47 serves it. -/
def answers (f : Frame) (tender : TenderState) (state : EntryState) (amount : Nat) : State :=
  serves (live state) (gateway .up f (claimed 0 { whole with state := .pinned } (known .tl1 3 0x17 .active
    (holding 0 { dinner with tenders := [{ card tender with amount := amount }] } ready))))

/-- Answers that are taken while AL is DOWN. -/
theorem witness_TheGatewayLinkComesAndGoes_answers :
    let s := fun x f t => serves x (gateway .down f (holding 0 (tendered t) ready))
    let reply := fun kind => answer kind ([47, 3] ++ if kind = 0x5A then [0] else [])
    let far := answer 0x5A [48, 3, 1]
    (s (live .watch) far .failed).gatewayReady far.kind far = true ∧ 48 ≤ fieldAt far.body 0 1 ∧
      (s (live .watch) far .failed).alState = .down ∧
      (s (reversing .sent) (reply 0x59) .failed).gatewayReady 0x59 (reply 0x59) = true ∧
      (s (reversing .sent) (reply 0x59) .failed).entryCell 47 = { generation := 3, use := some (reversing .sent) } ∧
      (s (live .watch) approval (.deferring 511 .none)).gatewayReady 0x58 approval = true ∧
      (s (live .watch) approval (.deferring 511 .none)).checkAt 0 = some (tendered (.deferring 511 .none)) ∧
      (tendered (.deferring 511 .none)).tender 1 = some (card (.deferring 511 .none)) ∧
      (s (live .watch) refusal .failed).gatewayReady 0x58 refusal = true ∧ fieldAt refusal.body 2 1 = 1 ∧
      fieldAt approval.body 2 1 = 0 ∧
      (s (draining .sent) (reply 0x5A) .failed).gatewayReady 0x5A (reply 0x5A) = true ∧
      ((s (draining .sent) (reply 0x5A) .failed).entryCell 47).use = some (draining .sent) ∧
      (tendered .failed).tender 1 = some (card .failed) := by decide +kernel

/-- No journal slot is in use where the reply to a submission finds nothing PENDING, and each answer has its command. -/
theorem witness_TheGatewayLinkComesAndGoes_commands :
    (∀ k, (gateway .down (answer 0x5A [47, 3, 0]) ready).journal.slotAt k = none) ∧
      takesFromGateway .authReply approval ∧ takesFromGateway .reversalReply (answer 0x59 [47, 3]) ∧
      takesFromGateway .submitReply (answer 0x5A [47, 3, 0]) ∧ takesFromGateway .gatewayError (answer 0x5B [47, 3]) :=
  ⟨fun k => recordAt_tabulate_none 512 k, by simp [takesFromGateway, approval, answer], by simp [takesFromGateway, answer],
    by simp [takesFromGateway, answer], by simp [takesFromGateway, answer]⟩

theorem witness_StrayAnswersAreCounted :
    let bad := answer 0x58 [47, 0, 2]
    let far := answer 0x59 [48, 0]
    let s := gateway .up bad ready
    let u := gateway .up far ready
    s.control.startup = .ready ∧ s.kept = none ∧ (s.link .al).inbound.head? = some bad ∧ bad.answerOk = false ∧
      (u.link .al).inbound.head? = some far ∧ far.terminal = 0 ∧ far.answerOk = true ∧ u.alState ≠ .down ∧
      48 ≤ fieldAt far.body 0 1 ∧ (u.entryCell 47).generation.toNat ≠ fieldAt [47, 1] 1 1 ∧
      (u.entryCell 47).use = none := by decide +kernel

/-- The tender's terminal holds the one PINNED claim; terminal 13 holds another share, and the answer is taken while AL is UP or DOWN. -/
theorem witness_AuthorizationsAreAnsweredInTime :
    let y := { card .authorizing with amount := 999 }
    let c := { dinner with tenders := [y] }
    let z := { whole with state := .pinned }
    let other : Claim := { whole with terminal := 13, scope := .share 1 }
    let s := claimed 63 other (answers approval .authorizing .sent 999)
    s.gatewayReady 0x58 approval = true ∧ s.alState = .up ∧ fieldAt approval.body 0 1 = 47 ∧
      (s.entryCell 47).generation.toNat = fieldAt approval.body 1 1 ∧ (s.entryCell 47).use = some (live .sent) ∧
      s.checkAt 0 = some c ∧ c.tender 1 = some y ∧ s.claimAt 0 = some z ∧ z.terminal = y.terminal ∧ z.check = c.number ∧
      (∀ j w, s.claimAt j = some w → w.terminal = y.terminal → w.check = c.number → w.state = .pinned → j = 0) ∧
      (s.terminal 12).state = .active ∧ fieldAt approval.body 2 1 = 0 ∧
      (gateway .down approval (claimed 0 z (holding 0 c ready))).gatewayReady 0x58 approval = true :=
  ⟨by decide +kernel, by decide +kernel, by decide, by decide +kernel, by decide +kernel, by decide +kernel, by decide,
    by decide +kernel, by decide, by decide, forall_recordAt (by decide +kernel), by decide +kernel, by decide, by decide +kernel⟩

/-- The holder is SUSPECT, or BARRED with its link full. -/
theorem witness_AuthorizationsAreAnsweredInTime_lost :
    let y := { card .authorizing with amount := 999 }
    let c := { dinner with tenders := [y] }
    let s := fun state => known .tl1 3 0x17 state (answers refusal .authorizing .sent 999)
    (s .suspect).gatewayReady 0x58 refusal = true ∧ ((s .suspect).terminal 12).state = .suspect ∧
      (s .suspect).checkAt 0 = some c ∧ (s .suspect).claimAt 0 = some { whole with state := .pinned } ∧
      ((s .suspect).entryCell 47).use = some (live .sent) ∧ fieldAt refusal.body 2 1 = 1 ∧ c.state = .opened ∧
      (s .barred).gatewayReady 0x58 refusal = true ∧ ((s .barred).terminal 12).state = .barred ∧
      (s .barred).claimAt 0 = some { whole with state := .pinned } := by decide +kernel

theorem witness_LateAnswersAreKeptOrReversed :
    let s := fun f tender => answers f tender .watch 1000
    let f := answer 0x59 [47, 3]
    let u := serves (reversing .queued) (gateway .settling f ready)
    (s approval .failed).gatewayReady 0x58 approval = true ∧ ((s approval .failed).entryCell 47).use = some (live .watch) ∧
      (s approval .failed).checkAt 0 = some (tendered .failed) ∧ (tendered .failed).tender 1 = some (card .failed) ∧
      (s refusal .reversed).gatewayReady 0x58 refusal = true ∧ (s refusal .reversed).checkAt 0 = some (tendered .reversed) ∧
      (s approval (.deferring 511 .none)).checkAt 0 = some (tendered (.deferring 511 .none)) ∧
      (tendered (.deferring 511 .none)).tender 1 = some (card (.deferring 511 .none)) ∧
      u.gatewayReady 0x59 f = true ∧ u.alState ≠ .down ∧ (u.entryCell 47).generation.toNat = fieldAt f.body 1 1 ∧
      (u.entryCell 47).use = some (reversing .queued) ∧ (reversing .queued).state ≠ .watch := by decide +kernel

/-- Journal slot 2 is in use with sequence 9. -/
def journaled (state : SlotState) (s : State) : State :=
  s.become { s.toPart with journal := { s.journal with
    mirror := s.journal.mirror.setIfInBounds 2 (some { state := state, sequence := 9, contents := contents13 })
    head := 1, tail := 3, occupied := 2, deferredTotal := 1100, nextSequence := 10 } }

def submitted (f : Frame) : State :=
  serves (draining .sent) (gateway .up f (journaled .pending (holding 0 (tendered (.deferred 2)) ready)))

/-- A late answer for a DEFERRED tender whose slot is PENDING. -/
theorem witness_LateAnswersAreKeptOrReversed_deferred :
    let s := fun f => serves (live .watch) (gateway .up f (journaled .pending (holding 0 (tendered (.deferred 2)) ready)))
    (s approval).gatewayReady 0x58 approval = true ∧ ((s approval).entryCell 47).use = some (live .watch) ∧
      (s approval).checkAt 0 = some (tendered (.deferred 2)) ∧ (tendered (.deferred 2)).tender 1 = some (card (.deferred 2)) ∧
      (s approval).journal.slotAt 2 = some { state := .pending, sequence := 9, contents := contents13 } ∧
      (s approval).journal.slotAt (s approval).journal.head = none ∧ fieldAt approval.body 2 1 = 0 ∧
      (s refusal).gatewayReady 0x58 refusal = true ∧ fieldAt refusal.body 2 1 = 1 := by decide +kernel

theorem witness_SubmissionsAreAnswered :
    let yes := answer 0x5A [47, 3, 0]
    let no := answer 0x5A [47, 3, 1]
    let s := submitted yes
    s.gatewayReady 0x5A yes = true ∧ s.alState ≠ .down ∧ fieldAt yes.body 0 1 = 47 ∧
      (s.entryCell 47).generation.toNat = fieldAt yes.body 1 1 ∧ (s.entryCell 47).use = some (draining .sent) ∧
      s.checkAt 0 = some (tendered (.deferred 2)) ∧ (tendered (.deferred 2)).tender 1 = some (card (.deferred 2)) ∧
      s.journal.slotAt 2 = some { state := .pending, sequence := 9, contents := contents13 } ∧
      s.journal.slotAt s.journal.head = none ∧ fieldAt yes.body 2 1 = 0 ∧
      (submitted no).gatewayReady 0x5A no = true ∧ fieldAt no.body 2 1 = 1 := by decide +kernel

/-- A DEFERRED tender whose PENDING slot is the head of the journal, for a late answer, a submission and a void; and one whose slot is
VOID. -/
theorem witness_SlotsAreVoidedAtTheHead :
    let atHead := fun s : State => s.become { s.toPart with journal := { s.journal with head := 2 } }
    let yes := answer 0x5A [47, 3, 0]
    let s := atHead (submitted yes)
    let u := atHead (serves (live .watch) (gateway .up refusal (journaled .pending (holding 0 (tendered (.deferred 2)) ready))))
    let v := fun state => atHead (journaled state (voids (card (.deferred 2))))
    let z := fun state => { state := state, sequence := 9, contents := contents13 : Slot }
    s.gatewayReady 0x5A yes = true ∧ s.journal.slotAt s.journal.head = some (z .pending) ∧ s.port.queue = [] ∧
      u.gatewayReady 0x58 refusal = true ∧ u.journal.slotAt u.journal.head = some (z .pending) ∧
      (v .pending).terminalReady .tl0 0x19 (request 0x19 [0xB4, 4, 1]) = true ∧
      (v .pending).findCheck 1204 = some (0, paidBy (card (.deferred 2))) ∧
      (v .pending).journal.slotAt 2 = some (z .pending) ∧ (v .void).journal.slotAt 2 = some (z .void) := by decide +kernel

/-- The void of a slot at the head requests MARK_VOID and then ERASE of it (R157, R158). -/
theorem test_void_at_head_requests_erase :
    let s := (submitted (answer 0x5A [47, 3, 0]))
    (match exec .submitReply (s.become { s.toPart with journal := { s.journal with head := 2 } }) with
      | .next t => t.port.queue
      | .fault _ | .refused _ => []) = [.markVoid 2, .erase 2 true] := by decide +kernel

/-- An orphan's entry, and a SUBMIT_REPLY for a REVERSED tender whose slot is VOID, is taken again, or is EMPTY. -/
theorem witness_SubmissionsAreAnswered_reversed :
    let yes := answer 0x5A [47, 3, 0]
    let orphan := { draining .sent with tender := none }
    let s := serves orphan (gateway .up yes (journaled .pending ready))
    let u := serves (draining .sent) (gateway .up yes (journaled .void (holding 0 (tendered .reversed) ready)))
    let v := serves (draining .watch) (gateway .up yes (holding 0 (tendered .reversed) ready))
    s.gatewayReady 0x5A yes = true ∧ (s.entryCell 47).use = some orphan ∧ orphan.tender = none ∧
      s.journal.slotAt 2 = some { state := .pending, sequence := 9, contents := contents13 } ∧
      s.journal.slotAt s.journal.head = none ∧ u.gatewayReady 0x5A yes = true ∧ (u.entryCell 47).use = some (draining .sent) ∧
      u.journal.slotAt 2 = some { state := .void, sequence := 9, contents := contents13 } ∧
      (draining .sent).tender = some { slot := 0, id := 1 } ∧ u.checkAt 0 = some (tendered .reversed) ∧
      (tendered .reversed).tender 1 = some (card .reversed) ∧ v.gatewayReady 0x5A yes = true ∧ v.journal.slotAt 2 = none ∧
      (v.entryCell 47).use = some (draining .watch) := by decide +kernel

theorem witness_GatewayErrorsAreTaken :
    let f := answer 0x5B [47, 3]
    let s := fun al x => serves x (gateway al f ready)
    (s .up (reversing .sent)).gatewayReady 0x5B f = true ∧ fieldAt f.body 0 1 = 47 ∧
      ((s .up (reversing .sent)).entryCell 47).generation.toNat = fieldAt f.body 1 1 ∧
      ((s .up (reversing .sent)).entryCell 47).use = some (reversing .sent) ∧
      ((s .down (draining .sent)).entryCell 47).use = some (draining .sent) ∧
      (s .down (draining .sent)).gatewayReady 0x5B f = true ∧ (s .down (draining .sent)).alState = .down ∧
      (s .up (draining .sent)).alState = .up ∧ (s .settling (draining .sent)).alState = .settling ∧
      (s .up (draining .sent)).venue.settleInterval ≠ 0 ∧
      (tuned (fun v => { v with settleInterval := 0 }) (s .down (draining .sent))).venue.settleInterval = 0 := by decide +kernel

/-- A SENT LIVE entry within the floor limit, at it, and not eligible; its tender's terminal holds the one PINNED claim. -/
theorem witness_GatewayErrorsAreTaken_live :
    let f := answer 0x5B [47, 3]
    let z := { whole with state := .pinned }
    let unfit := entryOf (.live [1] false) .sent
    let s := fun x => serves x (gateway .down f (claimed 63 z (holding 0 (tendered .authorizing) ready)))
    (s unfit).gatewayReady 0x5B f = true ∧ ((s unfit).entryCell 47).use = some unfit ∧
      ((s (live .sent)).entryCell 47).use = some (live .sent) ∧ (s (live .sent)).checkAt 0 = some (tendered .authorizing) ∧
      (tendered .authorizing).tender 1 = some (card .authorizing) ∧
      (card .authorizing).amount + (card .authorizing).payment.tip = 1100 ∧ 1100 ≤ (s unfit).venue.floorLimit ∧
      (s unfit).journal.deferredTotal + 1100 ≤ (s unfit).venue.offlineCeiling ∧ (s unfit).journal.occupied < 512 ∧
      (s unfit).claimAt 63 = some z ∧ z.terminal = 12 ∧ z.check = (tendered .authorizing).number ∧
      ∀ j w, (s unfit).claimAt j = some w → w.terminal = 12 → w.check = 1204 → w.state = .pinned → j = 63 :=
  ⟨by decide +kernel, by decide +kernel, by decide +kernel, by decide +kernel, by decide, by decide, by decide +kernel,
    by decide +kernel, by decide +kernel, by decide +kernel, by decide, by decide, forall_recordAt (by decide +kernel)⟩

/-- The AL link is in a state, entry 47 is in use, and its index waits in the send queue. -/
def waits (x : AlState) (y : Entry) : State :=
  let s := serves y ready
  s.become { s.toPart with alState := x, sendQueue := [47] }

theorem witness_TheArbiterGrants_1 :
    let s := waits .settling (reversing .queued)
    let u := waits .settling (live .queued)
    s.control.startup = .ready ∧ s.kept = none ∧ (s.link .al).outbound.length < 16 ∧ s.alState ≠ .down ∧
      s.entriesSent (fun _ => true) < s.venue.window ∧ s.sendQueue = [] ++ 47 :: [] ∧
      (s.entryCell 47).use = some (reversing .queued) ∧ u.sendQueue = [] ++ 47 :: [] ∧
      (u.entryCell 47).use = some (live .queued) ∧ (waits .down (live .queued)).alState = .down ∧
      (tuned (fun v => { v with window := 0 }) u).venue.window ≤
        (tuned (fun v => { v with window := 0 }) u).entriesSent (fun _ => true) := by decide +kernel

theorem witness_TheArbiterGrants_2 :
    ∀ j ∈ (waits .up (live .queued)).sendQueue, ∀ y code source sequence,
      ((waits .up (live .queued)).entryCell j).use = some y → y.kind ≠ .reversal code source sequence := by
  intro j hj y code source sequence e
  obtain rfl : j = 47 := by simpa using (show j ∈ [47] from hj)
  rw [show ((waits .up (live .queued)).entryCell 47).use = some (live .queued) by decide +kernel] at e
  cases e
  simp [live, entryOf]

/-- The link is UP, slot 2 waits for its submission, and the first `n` entries are not FREE. -/
def drains (n : Nat) : State :=
  let s := journaled .pending (holding 0 (tendered (.deferred 2)) ready)
  s.become { s.toPart with
    alState := .up
    entries := tabulate 48 fun i => { generation := 0, use := if i < n then some (live .watch) else none }
    freeList := List.range' n (48 - n) }

theorem witness_TheArbiterGrants_3 :
    let s := drains 39
    s.control.startup = .ready ∧ s.alState = .up ∧ s.sendQueue = [] ∧ s.entriesSent (fun _ => true) < s.venue.window ∧
      s.entriesSent EntryKind.isDrain < s.venue.drainShare ∧ s.freeList = 39 :: List.range' 40 8 ∧
      s.journal.slotAt 2 = some { state := .pending, sequence := 9, contents := contents13 } ∧ s.drainNames 2 = false ∧
      s.checkAt 0 = some (tendered (.deferred 2)) ∧ card (.deferred 2) ∈ (tendered (.deferred 2)).tenders ∧
      s.journal.locked = false ∧ 8 ≤ (List.range' 40 8).length ∧ (drains 40).freeList = 40 :: List.range' 41 7 ∧
      (List.range' 41 7).length < 8 := by decide +kernel

theorem witness_TheArbiterGrants_4 :
    (∀ j w, (drains 39).journal.slotAt j = some w → w.state = .pending → (drains 39).drainNames j = false → j ≠ 2 →
        0 < (w.sequence - 9).toInt) ∧
      ∀ i d w, (drains 39).checkAt i = some d → w ∈ d.tenders → w.state = .deferred 2 → i = 0 ∧ w.id = 1 :=
  ⟨fun j w e a b c => absurd (forall_recordAt (holds := fun j _ => j = 2) (by decide +kernel) j w e) c,
    fun i d w e m h => forall_recordAt (holds := fun i d => ∀ w ∈ d.tenders, w.state = .deferred 2 → i = 0 ∧ w.id = 1)
      (by decide +kernel) i d e w m h⟩

/-- The deadline of entry 47 is due. -/
def expiring (x : Entry) (al : AlState) (s : State) : State :=
  let t := dueNow (.auth 47 3) (serves x s)
  t.become { t.toPart with alState := al }

theorem witness_EntriesExpire :
    let s := expiring (draining .sent) .up ready
    let u := expiring (live .sent) .down (holding 0 (tendered .authorizing) ready)
    s.control.startup.running = true ∧ s.clockUnit.deadlines = { due := 0, owner := .auth 47 (s.entryCell 47).generation } :: [] ∧
      ((0 : Time) - s.now).toInt ≤ 0 ∧ (s.entryCell 47).use = some (draining .sent) ∧ s.alState = .up ∧
      s.venue.settleInterval ≠ 0 ∧ (expiring (draining .sent) .down ready).alState = .down ∧
      ((expiring (live .watch) .up ready).entryCell 47).use = some (live .watch) ∧
      ((expiring (reversing .queued) .up ready).entryCell 47).use = some (reversing .queued) ∧
      (u.entryCell 47).use = some (live .sent) ∧ u.checkAt 0 = some (tendered .authorizing) ∧
      (tendered .authorizing).tender 1 = some (card .authorizing) ∧ u.journal.tail < 512 := by decide +kernel

/-- A DRAIN entry expires while the link is SETTLING. -/
theorem witness_EntriesExpire_settling :
    let s := expiring (draining .sent) .settling ready
    s.control.startup.running = true ∧ s.clockUnit.deadlines = { due := 0, owner := .auth 47 (s.entryCell 47).generation } :: [] ∧
      (s.entryCell 47).use = some (draining .sent) ∧ (draining .sent).state = .sent ∧ s.alState = .settling := by decide +kernel

/-! ### The memory -/

theorem witness_JournalSlotsReadBack :
    let x := { contents13 with check := 65535, token := List.replicate 64 0x5A }
    x.check < 2 ^ 16 ∧ x.table < 2 ^ 16 ∧ x.terminal < 2 ^ 16 ∧ x.tender < 2 ^ 8 ∧ x.amount < 2 ^ 32 ∧ x.tip < 2 ^ 32 ∧
      x.token.length ≤ 64 := by decide

/-- Slot 2 is RESERVED for the check's tender and its APPEND, or another operation, is in progress. -/
def appending (op : MemoryOp) : State :=
  operating [op] (journaled .reserved (holding 0 (tendered (.deferring 2 .none)) ready))

theorem witness_TransfersEndWell_1 :
    let s := appending (.append 2)
    s.control.startup.running = true ∧ (appending (.markVoid 511)).port.queue = .markVoid 511 :: [] ∧
      (appending (.markVoid 511)).journal.eraseAgain = false ∧ s.port.queue = .append 2 :: [] ∧ s.journal.eraseAgain = false ∧
      s.journal.slotAt 2 = some { state := .reserved, sequence := 9, contents := contents13 } ∧
      s.checkAt 0 = some (tendered (.deferring 2 .none)) ∧
      (tendered (.deferring 2 .none)).tender 1 = some (card (.deferring 2 .none)) ∧
      (appending (.erase 1 true)).port.queue = .erase (appending (.erase 1 true)).journal.head true :: [] ∧
      (appending (.erase 1 true)).journal.slotAt ((1 + 1) % 512) = some { state := .reserved, sequence := 9, contents := contents13 } ∧
      (operating [.scan] (phase .scanning ready)).port.queue = .scan :: [] ∧
      (operating [.scan] (phase .scanning ready)).port.transfersDone < 511 ∧
      (operating [.saveImage] (phase .saving ready)).port.queue = .saveImage :: [] ∧
      (operating [.saveImage] (phase .saving ready)).port.snapshot = none := by decide +kernel

/-- The head, slot 1, is VOID and its ERASE has faulted; an operation is in progress. -/
def eraseAgain (op : MemoryOp) (s : State) : State :=
  let s := operating [op] s
  s.become { s.toPart with journal := { s.journal with
    mirror := s.journal.mirror.setIfInBounds 1 (some { state := .void, sequence := 8, contents := contents13 })
    head := 1, tail := 2, occupied := 1, eraseAgain := true } }

theorem witness_TransfersEndWell_again :
    let s := eraseAgain (.erase 511 false) ready
    let u := eraseAgain .consumeImage (phase .restoring (ready.become { ready.toPart with pfail := true }))
    (operating [.erase 511 false] ready).port.queue = .erase 511 false :: [] ∧
      (operating [.erase 511 false] ready).journal.eraseAgain = false ∧
      s.control.startup.running = true ∧ s.port.queue = .erase 511 false :: [] ∧ s.journal.eraseAgain = true ∧
      s.journal.slotAt s.journal.head = some { state := .void, sequence := 8, contents := contents13 } ∧ s.port.waiting = [] ∧
      (eraseAgain (.markVoid 1) ready).port.queue = .markVoid 1 :: [] ∧
      (eraseAgain (.markVoid 1) (operating [] ready)).journal.eraseAgain = true ∧ MemoryOp.erase 1 true ∈ [MemoryOp.erase 1 true] ∧
      u.port.queue = .consumeImage :: [] ∧ u.control.startup = .restoring ∧ u.control.unknowns < 256 ∧ u.pfail = true ∧
      u.journal.eraseAgain = true ∧ u.journal.slotAt u.journal.head
        = some { state := .void, sequence := 8, contents := contents13 } := by decide +kernel

/-- The ERASE of a head, slot 511, whose next entry is VOID, and of a head with nothing behind it. -/
theorem witness_TransfersEndWell_head :
    let run := fun (next : Option Slot) (tail : Nat) =>
      let s := operating [.erase 511 true] ready
      s.become { s.toPart with journal := { s.journal with
        mirror := (s.journal.mirror.setIfInBounds 511 (some { state := .void, sequence := 8, contents := contents13 })).setIfInBounds 0 next
        head := 511, tail := tail, occupied := 2 } }
    let s := run (some { state := .void, sequence := 9, contents := contents13 }) 1
    let u := run none 0
    s.control.startup.running = true ∧ s.port.queue = .erase s.journal.head true :: [] ∧ s.journal.head < 512 ∧
      s.journal.slotAt ((s.journal.head + 1) % 512) = some { state := .void, sequence := 9, contents := contents13 } ∧
      s.port.waiting = [] ∧ u.port.queue = .erase u.journal.head true :: [] ∧ u.journal.tail = (u.journal.head + 1) % 512 ∧
      ∀ k, k ≠ u.journal.head → u.journal.slotAt k = none :=
  ⟨by decide +kernel, by decide +kernel, by decide +kernel, by decide +kernel, by decide +kernel, by decide +kernel, by decide +kernel,
    fun k h => Option.eq_none_iff_forall_ne_some.mpr fun _ e =>
      h (forall_recordAt (holds := fun k _ => k = 511) (by decide +kernel) k _ e)⟩

theorem witness_TransfersEndWell_2 :
    ∀ i d w, (appending (.append 2)).checkAt i = some d → w ∈ d.tenders → w.state.inFlight = true → w.state.slot = some 2 →
      i = 0 ∧ w = card (.deferring 2 .none) :=
  fun i d w e m a b => forall_recordAt (holds := fun i d => ∀ w ∈ d.tenders, w.state.inFlight = true → w.state.slot = some 2 →
    i = 0 ∧ w = card (.deferring 2 .none)) (by decide +kernel) i d e w m a b

/-- The APPEND of slot 2 for a tender with a late mark, the slot at the head or behind it. -/
theorem witness_TransfersEndWell_marked :
    let c := fun mark => tendered (.deferring 2 mark)
    let s := fun mark => operating [.append 2] (journaled .reserved (holding 0 (c mark) ready))
    let code := [1, 2, 3, 4, 5, 6]
    (s (.confirmed code)).port.queue = .append 2 :: [] ∧ (s (.confirmed code)).journal.eraseAgain = false ∧
      (s (.confirmed code)).journal.slotAt 2 = some { state := .reserved, sequence := 9, contents := contents13 } ∧
      (s (.confirmed code)).checkAt 0 = some (c (.confirmed code)) ∧
      (c (.confirmed code)).tender 1 = some (card (.deferring 2 (.confirmed code))) ∧
      (s (.declined 5)).checkAt 0 = some (c (.declined 5)) ∧
      (c (.declined 5)).tender 1 = some (card (.deferring 2 (.declined 5))) ∧
      (inUse (s (.declined 5)).checks).length = 1 ∧ (c (.declined 5)).tenders.length = 1 := by decide +kernel

/-- The APPEND of slot 2 faults for a tender with a late mark. -/
theorem witness_MemoryFaultsAreTaken_marked :
    let c := fun mark => tendered (.deferring 2 mark)
    let s := fun mark => operating [.append 2] (journaled .reserved (holding 0 (c mark) ready))
    let code := [1, 2, 3, 4, 5, 6]
    (s (.confirmed code)).control.startup.running = true ∧ (s (.confirmed code)).exceptions.length < 64 ∧
      (s (.confirmed code)).port.queue = .append 2 :: [] ∧
      (s (.confirmed code)).journal.slotAt 2 = some { state := .reserved, sequence := 9, contents := contents13 } ∧
      (s (.confirmed code)).checkAt 0 = some (c (.confirmed code)) ∧
      (c (.confirmed code)).tender 1 = some (card (.deferring 2 (.confirmed code))) ∧
      (s (.declined 5)).checkAt 0 = some (c (.declined 5)) ∧ (c (.declined 5)).tender 1 = some (card (.deferring 2 (.declined 5))) ∧
      (inUse (s (.declined 5)).checks).length = 1 ∧ (c (.declined 5)).tenders.length = 1 := by decide +kernel

theorem witness_MemoryFaultsAreTaken :
    let s := odd 63 (appending (.append 2))
    s.control.startup.running = true ∧ s.exceptions.length < 64 ∧ s.port.queue = .append 2 :: [] ∧
      s.journal.slotAt 2 = some { state := .reserved, sequence := 9, contents := contents13 } ∧
      s.checkAt 0 = some (tendered (.deferring 2 .none)) ∧
      (tendered (.deferring 2 .none)).tender 1 = some (card (.deferring 2 .none)) ∧
      50 ≤ ((timed 50 s).now - (timed 50 s).port.transferStart).toNat ∧
      ((timed 49 s).now - (timed 49 s).port.transferStart).toNat < 50 ∧
      (odd 0 (appending (.markVoid 0))).port.queue = .markVoid 0 :: [] ∧
      (odd 63 (appending (.erase 511 false))).port.queue = .erase 511 false :: [] ∧
      (odd 63 (appending (.erase 1 true))).port.queue = .erase (odd 63 (appending (.erase 1 true))).journal.head true :: [] := by
  decide +kernel

/-! ### The scan and the preservation image -/

/-- The bytes of a PENDING slot of a sequence, erased but for its state, its sequence and its check value. -/
def sparseSlot (k : Nat) (sequence : Byte) (m : Memory) : Memory :=
  let covered := [sequence, 0, 0, 0] ++ List.replicate 121 0xFF
  (m.writeAll (0x010000 + 128 * k) [0x3C, sequence, 0, 0, 0]).writeAll (0x010000 + 128 * k + 126) (leBytes 2 (crc16 covered).toNat)

/-- Journal slots 511 and 0 are PENDING in the memory, with sequences 5 and 6. -/
def twoSlots : Memory := sparseSlot 511 5 (sparseSlot 0 6 [])

/-- The slots of `twoSlots` as read. -/
def readAs (k : Nat) : Option (BitVec 32) :=
  match twoSlots.slotReading k with
  | .valid _ sequence _ => some sequence
  | .damaged | .empty => none

theorem readAll_erased {m : Memory} {n a : Nat} (h : ∀ e ∈ m, e.1 < a ∨ a + n ≤ e.1) :
    m.readAll a n = List.replicate n 0xFF := by
  have read : ∀ (m : Memory) (a : Nat), (∀ e ∈ m, e.1 ≠ a) → m.read a = 0xFF := by
    intro m a h
    induction m with
    | nil => rfl
    | cons e rest ih => simp [Memory.read, h e (by simp), ih fun x hx => h x (by simp [hx])]
  induction n generalizing a with
  | zero => rfl
  | succ n ih =>
    simp only [Memory.readAll, List.replicate_succ]
    rw [read m a fun e he => by have := h e he; omega, ih fun e he => by have := h e he; omega]

set_option maxRecDepth 8000 in
theorem twoSlots_reading (k : Nat) (lt : k < 512) (h0 : k ≠ 0) (h511 : k ≠ 511) : twoSlots.slotReading k = .empty := by
  have all : ∀ e ∈ twoSlots, e.1 < 0x010000 + 128 ∨ 0x010000 + 128 * 511 ≤ e.1 := by decide +kernel
  unfold Memory.slotReading
  rw [readAll_erased fun e he => by have := all e he; omega]
  decide +kernel

set_option maxRecDepth 8000 in
theorem twoSlots_holds (k : Nat) (q : BitVec 32) : twoSlots.holds k q ↔ k = 0 ∧ q = 6 ∨ k = 511 ∧ q = 5 := by
  have valid : ∀ k q, (∃ pending contents, twoSlots.slotReading k = .valid pending q contents) ↔ readAs k = some q := by
    intro k q
    unfold readAs
    cases twoSlots.slotReading k <;> simp
  have zero : readAs 0 = some 6 := by decide +kernel
  have last : readAs 511 = some 5 := by decide +kernel
  unfold Memory.holds
  rw [valid]
  constructor
  · rintro ⟨lt, e⟩
    by_cases h0 : k = 0
    · subst h0; rw [zero] at e; simp_all
    · by_cases h511 : k = 511
      · subst h511; rw [last] at e; simp_all
      · unfold readAs at e; rw [twoSlots_reading k lt h0 h511] at e; cases e
  · rintro (⟨rfl, rfl⟩ | ⟨rfl, rfl⟩)
    · exact ⟨by decide, zero⟩
    · exact ⟨by decide, last⟩

/-- The run of two slots across the end of the journal. -/
theorem witness_TheScanRebuildsTheJournal_1 :
    let s := reading twoSlots 511 (operating [.scan] (phase .scanning ready))
    s.control.startup = .scanning ∧ s.port.queue = [.scan] ∧ s.port.waiting = [] ∧ s.port.transfersDone = 511 ∧
      s.memory.hasRun 511 2 5 := by
  refine ⟨by decide +kernel, by decide +kernel, by decide +kernel, by decide +kernel, .inr ?_⟩
  show ∃ rank last lastSequence, twoSlots.ranks rank ∧ _
  refine ⟨fun q => (q - 5).toNat, 0, 6, .inl ⟨511, 5, ?_, ?_, fun _ => rfl⟩, ?_, ?_, by decide, ?_, ?_⟩
  all_goals first | (show twoSlots.holds _ _; rw [twoSlots_holds]; decide) | skip
  all_goals
    intro k q h
    rcases (twoSlots_holds k q).mp h with ⟨rfl, rfl⟩ | ⟨rfl, rfl⟩ <;> decide

/-- An erased journal, and a SCAN that has run into its limit. -/
theorem witness_TheScanRebuildsTheJournal_2 :
    let s := operating [.scan] (phase .scanning ready)
    s.memory.hasRun 0 0 1 ∧ (timed 50 s).control.startup = .scanning ∧ (timed 50 s).port.queue = [.scan] ∧
      (timed 50 s).port.waiting = [] ∧ 50 ≤ ((timed 50 s).now - (timed 50 s).port.transferStart).toNat := by
  refine ⟨.inl ⟨rfl, rfl, rfl, ?_⟩, by decide +kernel, by decide +kernel, by decide +kernel, by decide +kernel⟩
  rintro k q ⟨-, _, _, e⟩
  have : (State.reset.memory).slotReading k = .empty := by
    unfold Memory.slotReading
    rw [show State.reset.memory = [] from rfl, readAll_erased (by simp)]
    decide +kernel
  rw [show (operating [.scan] (phase .scanning ready)).memory = State.reset.memory from rfl, this] at e
  cases e

/-- An operation of the image is in progress after `n` transfers; another operation waits behind it. -/
def imaging (op : MemoryOp) (m : Memory) (n : Nat) : State := reading m n (operating [op, .markVoid 3] (phase .restoring ready))

/-- Terminal 12 is BARRED, and entries in WATCH and of a REVERSAL are in use. -/
def shutDown : State :=
  busy 3 (live .watch) (busy 47 (entryOf (.reversal [1, 2, 3, 4, 5, 6] .submission 7) .sent) (known .tl1 3 0x17 .barred ready))

/-- The image of a state in the memory. -/
def imageOfState (s : State) : Memory := Memory.writeAll [] 0x020000 s.image

theorem witness_TheImageIsRestoredAndSaved_1 :
    let s := imaging .readImage [] 0
    let u := imaging .readImage (imageOfState shutDown) 1
    let header := u.memory.readAll 0x020000 32
    let body := u.memory.readAll 0x020020 (fieldAt header 14 4)
    s.control.startup = .restoring ∧ s.port.queue = .readImage :: [.markVoid 3] ∧ s.journal.eraseAgain = false ∧
      (s.memory.readAll 0x020000 32).take 4 ≠ [0x52, 0x50, 0x49, 0x4D] ∧ s.port.transfersDone = 0 ∧ s.pfail = false ∧
      s.control.unknowns < 256 ∧ header.take 4 = [0x52, 0x50, 0x49, 0x4D] ∧ fieldAt header 4 2 = 1 ∧
      u.port.transfersDone = (min (fieldAt header 14 4) 262112 + 255) / 256 ∧ fieldAt header 10 1 = 0 ∧
      fieldAt header 11 1 = 1 ∧ fieldAt header 12 1 = 2 ∧ body = leBytes 2 12 ++ [body.drop 2 |>.take 24, body.drop 26].flatten ∧
      (∀ r ∈ [body.drop 2 |>.take 24, body.drop 26], r.length = 24) ∧
      fieldAt header 18 2 = (crc16 (header.take 18 ++ body)).toNat ∧
      (imaging .readImage (imageOfState shutDown) 0).port.transfersDone < 1 ∧
      ((imageOfState shutDown).write 0x020020 0xAA).readImage = .rejected ∧
      50 ≤ ((timed 50 u).now - (timed 50 u).port.transferStart).toNat := by decide +kernel

/-- A saved check as the image holds it. -/
def savedMeal : SavedCheck :=
  match takeCheck ((holding 0 meal ready).image.drop 32) with
  | some (x, _) => x
  | none => { record := [], lines := [], shares := [], tenders := [] }

theorem witness_TheImageIsRestoredAndSaved_2 :
    savedMeal.read 0 = some meal ∧ ready.accepts savedMeal 0 = some meal ∧ firstFree ready.checks = some 0 ∧
      ready.accepts { savedMeal with record := List.replicate 168 0 } 0 = none ∧
      (opens.become { opens.toPart with checks := filled.checks }).accepts savedMeal 0 = none := by decide +kernel

/-- The conversion of a saved tender, its journal slot PENDING, named before, or EMPTY. -/
theorem witness_TheImageIsRestoredAndSaved_3 :
    let c := tendered (.deferring 2 .none)
    let s := journaled .pending (holding 0 c ready)
    s.checkAt 0 = some c ∧ c.tender (card (.deferring 2 .none)).id = some (card (.deferring 2 .none)) ∧
      (∀ i, s.claimAt i = none) ∧ s.journal.slotAt 2 = some { state := .pending, sequence := 9, contents := contents13 } ∧
      contents13.check = c.number ∧ contents13.tender = (card (.deferring 2 .none)).id ∧ 2 ∉ [7] ∧ 2 ∈ [2] ∧
      (holding 0 c ready).journal.slotAt 2 = none ∧ (card .failed).state.inFlight = false :=
  ⟨by decide +kernel, by decide, fun i => by
    have := forall_recordAt (v := (journaled .pending (holding 0 (tendered (.deferring 2 .none)) ready)).claims)
      (holds := fun _ _ => False) (by decide +kernel) i
    exact Option.eq_none_iff_forall_ne_some.mpr fun c h => this c h,
   by decide +kernel, by decide, by decide, by decide, by decide, by decide +kernel, by decide⟩

theorem witness_TheImageIsRestoredAndSaved_4 :
    let s := imaging .consumeImage [] 0
    let u := reading [] 2 (operating [.saveImage] (phase .saving ready))
    let v := u.become { u.toPart with port := { u.port with snapshot := some (holding 0 meal ready).image } }
    s.port.queue = .consumeImage :: [.markVoid 3] ∧ s.control.startup = .restoring ∧ s.journal.eraseAgain = false ∧
      s.control.unknowns < 256 ∧ s.pfail = false ∧ (s.become { s.toPart with pfail := true }).pfail = true ∧
      32 ≤ (holding 0 meal ready).image.length ∧
      50 ≤ ((timed 50 s).now - (timed 50 s).port.transferStart).toNat ∧ v.control.startup = .saving ∧
      v.port.queue = .saveImage :: [] ∧ v.port.transfersDone = 2 ∧
      2 = ((holding 0 meal ready).image.length - 32 + 255) / 256 + 1 ∧ v.journal.eraseAgain = false := by decide +kernel

/-! ### The manual's worked cases, and the host's names

The expected figures are those of the tables of 01, 03 and 05. -/

/-- The check value of the nine characters "123456789" is 0x29B1 (01, "Frame format"). -/
theorem test_crc16_check_value : crc16 [0x31, 0x32, 0x33, 0x34, 0x35, 0x36, 0x37, 0x38, 0x39] = 0x29B1 := by decide +kernel

/-- The venue of the banquet: class 0 at 8,875, class 1 at 10,000, service 18,000 from 6 covers on. -/
def banquetVenue (inclusive : Bool) : Venue :=
  { Venue.defaults with
    inclusive := inclusive
    rates := tabulate 8 fun c => if c = 0 then 8875 else if c = 1 then 10000 else 0
    serviceRate := 18000
    serviceThreshold := 6 }

def dish (number cls : Nat) (price : Int) (quantity : Nat) (set : Option (BitVec 16)) : Line where
  number := number
  kind := if price < 0 then .discount else .item
  code := 0
  cls := cls
  price := price
  quantity := quantity
  amount := price * quantity
  live := true
  shareSet := set

/-- The four lines of the banquet check, with the sets of the item division or without a set. -/
def banquet (sets : Bool) : List Line :=
  let put := fun set : BitVec 16 => if sets then some set else none
  [dish 1 0 1250 3 (put 0b111), dish 2 0 4800 1 (put 0b001), dish 3 1 1400 2 (put 0b110), dish 4 0 (-500) 1 (put 0b001)]

/-- What the share engine answers, as due and pre-tax part of each share. -/
def divided (v : Venue) (plan : Plan) (lines : List Line) : Option (List (Nat × Nat)) :=
  match recompute v plan (workTotals v 6 lines) lines with
  | .ok figures => some (figures.map fun g => (g.due, g.preTax))
  | .error _ => none

/-- The banquet check, EXCLUSIVE and INCLUSIVE: taxes, service and total (05). -/
theorem test_banquet_totals :
    let t := workTotals (banquetVenue false) 6 (banquet false)
    let u := workTotals (banquetVenue true) 6 (banquet false)
    (t.bases[0], t.bases[1], t.itemNet, t.taxes[0], t.taxes[1], t.service, t.total) = (8050, 2800, 10850, 714, 280, 1953, 13797) ∧
      (u.taxes[0], u.taxes[1], u.service, u.total) = (656, 255, 1953, 12803) := by decide +kernel

/-- The even division of the banquet check over four shares, EXCLUSIVE and INCLUSIVE (05). -/
theorem test_banquet_even :
    let plan : Plan := { kind := .even, count := 4, given := [] }
    divided (banquetVenue false) plan (banquet false) = some [(3450, 2713), (3449, 2712), (3449, 2712), (3449, 2712)] ∧
      divided (banquetVenue true) plan (banquet false) = some [(3201, 2713), (3201, 2713), (3201, 2713), (3200, 2712)] := by
  decide +kernel

/-- The item division of the banquet check over three shares, EXCLUSIVE and INCLUSIVE (05). -/
theorem test_banquet_byItem :
    let plan : Plan := { kind := .byItem, count := 3, given := [] }
    divided (banquetVenue false) plan (banquet true) = some [(7041, 5550), (3378, 2650), (3378, 2650)] ∧
      divided (banquetVenue true) plan (banquet true) = some [(6549, 5550), (3127, 2650), (3127, 2650)] := by decide +kernel

/-- Where every key ties, the allocations go by the lowest share (05, "Every key ties"). -/
theorem test_every_key_ties :
    allocate 266 [1000, 1000, 1000] = [89, 89, 88] ∧ allocate 100 [334, 333, 333] = [34, 33, 33] ∧
      allocate 720 [1334, 1333, 1333] = [240, 240, 240] := by decide +kernel

/-- The tips on share 2 of the item division, due 3,378 with a pre-tax part of 2,650 (05). -/
theorem test_tips_on_share_2 :
    let s : Share := { Share.blank 1 with due := 3378, preTax := 2650 }
    let t : Share := { s with tips := 314 }
    (workTip 2 20000 3378 s, workTip 1 20000 3378 s, workTip 1 45000 3378 s, workTip 0 1351 3378 s) = (530, 676, 1520, 1351) ∧
      (workTip 2 20000 2000 s, workTip 2 20000 1378 t) = (314, 216) ∧
      (tipWithin Venue.defaults s 530, tipWithin Venue.defaults s 1520, tipWithin Venue.defaults s 1351,
        tipWithin Venue.defaults t 216) = (true, false, true, true) := by decide +kernel

/-- The banquet check as it stands before the line is added at 541,000: FIXED over four shares, shares 1 and 4 paid (03, "a line
added after anchoring"). -/
def banquetCheck : Check :=
  let share := fun due preTax paid : Nat => { Share.blank 1 with due := due, preTax := preTax, applied := paid }
  let paid := fun (id k amount : Nat) => { card (.approved [0, 0, 0, 0, 0, 0]) with id := id, share := k, amount := amount }
  { Check.fresh 2206 41 6 0#32 with
    state := .settling
    anchoredAt := some 514800#32
    lines := banquet false
    totals := workTotals (banquetVenue false) 6 (banquet false)
    plan := { kind := .fixed, count := 4, given := [] }
    shares := tabulate 16 fun i =>
      if i = 0 then share 3450 2713 3450 else if i = 1 then share 3449 2712 0 else if i = 2 then share 3449 2712 0
      else if i = 3 then share 3449 2712 3449 else Share.blank 0
    tenders := [paid 1 1 3450, paid 2 4 3449] }

/-- The banquet check, and ADD_LINE of drink 1,400 × 1. -/
def dessert : State :=
  tuned (fun _ => banquetVenue false)
    (holding 0 banquetCheck (offer .ol (order 0x31 [0x9E, 8, 0, 0, 0, 0, 0, 1, 0x78, 5, 0, 0, 1]) ready))

/-- The reply at the tail of OL, and the share that a line is charged to, after a command. -/
def replied (c : Instr) (s : State) : Option (List Byte × List (Nat × Nat)) :=
  match exec c s with
  | .next t =>
    some (((t.link .ol).outbound.getLast?.map fun f => f.body).getD [],
      ((t.checkAt 0).map fun c => [1, 2, 3, 4].map fun k => ((c.share k).due, (c.share k).preTax)).getD [])
  | .fault _ | .refused _ => none

/-- The reply carries line number 5, total 15,589 and delta share 3, whose due becomes 5,241 with a pre-tax part of 4,112 (03). -/
theorem test_line_added_after_anchoring :
    replied .addLine dessert
      = some ([0, 5, 0xE5, 0x3C, 0, 0, 3], [(3450, 2713), (3449, 2712), (5241, 4112), (3449, 2712)]) := by decide +kernel

/-- A card taken at table 7 goes offline after its check has moved to table 8: the slot names table 7 (R40, R147). -/
theorem test_slot_names_the_table_of_the_card :
    let moved := { tendered .authorizing with table := 8 }
    (match exec .liveTimeout (expiring (live .sent) .down (holding 0 moved ready)) with
      | .next t => (t.journal.slotAt 0).map fun z => z.contents.table
      | .fault _ | .refused _ => none) = some 7 := by decide +kernel

/-- A marked image with a count out of range has its body read all the same: its header is followed by a transfer (R184). -/
theorem test_marked_image_is_read :
    (imaging .readImage ((imageOfState shutDown).write 0x02000B 97) 0).transfersOf .readImage = 2 := by decide +kernel

/-- The table gives no row a bit: no word spells a command, and the queue stays as it is (DEDUCED, log entry 2). -/
theorem test_no_word_spells_a_command :
    decodeTableWord 32 0 = none ∧ State.reset.withFetchWord 8 0xA5 = State.reset := ⟨rfl, rfl⟩

end Sys2Proof.Tests
end

section
/-! PROOFS. The bounds that every step keeps (O6): `Part.Fits` says them once, each operation of the model keeps them, and each
command is put together from its operations. -/

namespace Sys2Proof.Machine

/-! ### The bounds, with the kept place as it stands -/

/-- The part keeps its bounds, and the outbound place kept for a reply is `k` (R6): what holds in the middle of a request as
well as between commands. -/
def Part.Fits (k : Option Link) (p : Part) : Prop :=
  (∀ l, (p.link l).bounded = true) ∧ p.kept = k ∧ p.noticeList.length ≤ 32 ∧ p.noticesLost ≤ 255 ∧ p.reheard ≤ 65535 ∧
    p.staleReplies ≤ 65535 ∧ p.exceptions.length ≤ 64 ∧ p.exceptionsLost ≤ 255 ∧ p.port.bounded = true ∧ p.clockUnit.second ≤ 999

/-- Between commands the bounds are those of the model. -/
theorem Part.bounded_iff_fits (p : Part) : p.bounded = true ↔ p.Fits none := by
  have links : (∀ l, (p.link l).bounded = true) ↔ p.links.tl0.bounded = true ∧ p.links.tl1.bounded = true ∧
      p.links.tl2.bounded = true ∧ p.links.tl3.bounded = true ∧ p.links.ol.bounded = true ∧ p.links.al.bounded = true := by
    constructor
    · intro h
      exact ⟨h (.tl .tl0), h (.tl .tl1), h (.tl .tl2), h (.tl .tl3), h .ol, h .al⟩
    · rintro ⟨h0, h1, h2, h3, ho, ha⟩ l
      match l with
      | .tl .tl0 => exact h0
      | .tl .tl1 => exact h1
      | .tl .tl2 => exact h2
      | .tl .tl3 => exact h3
      | .ol => exact ho
      | .al => exact ha
  unfold Part.Fits
  rw [links]
  simp only [Part.bounded, Bool.and_eq_true, decide_eq_true_eq, and_assoc]
  rfl

/-- A saturating count stays within its width (R13). -/
theorem saturate_le {most n : Nat} (h : n ≤ most) : saturate most n ≤ most := by
  unfold saturate
  split <;> omega

/-! ### Links -/

/-- What a link's bounds come to. -/
theorem LinkState.bounded_iff (x : LinkState) : x.bounded = true ↔
    x.inbound.length ≤ 8 ∧ x.outbound.length ≤ 16 ∧ x.crcErrors ≤ 65535 ∧ x.framingErrors ≤ 65535 ∧ x.overruns ≤ 65535 ∧
      x.advisoriesLost ≤ 65535 ∧ ∀ length got last, x.receiver = .body length got last →
        within 6 297 length = true ∧ got.length < length := by
  unfold LinkState.bounded
  simp only [Bool.and_eq_true, decide_eq_true_eq, and_assoc]
  cases x.receiver <;> simp [Config.inboundPlaces, Config.outboundPlaces, Config.counterMax]

/-- A link with the same receiver, whose queues and counters keep their places and widths. -/
theorem LinkState.bounded_of_receiver {x y : LinkState} (h : x.bounded = true) (hr : y.receiver = x.receiver)
    (hi : y.inbound.length ≤ 8) (ho : y.outbound.length ≤ 16) (hc : y.crcErrors ≤ 65535) (hf : y.framingErrors ≤ 65535)
    (hv : y.overruns ≤ 65535) (ha : y.advisoriesLost ≤ 65535) : y.bounded = true := by
  rw [LinkState.bounded_iff] at h ⊢
  obtain ⟨_, _, _, _, _, _, partialFrame⟩ := h
  rw [hr]
  exact ⟨hi, ho, hc, hf, hv, ha, partialFrame⟩

theorem LinkState.bounded_enqueue {x : LinkState} (f : Frame) (h : x.bounded = true) : (x.enqueue f).bounded = true := by
  obtain ⟨hi, ho, hc, hf, hv, ha, _⟩ := x.bounded_iff.mp h
  obtain ⟨room, e⟩ | ⟨_, e⟩ := x.enqueue_cases f
  · rw [e]
    exact LinkState.bounded_of_receiver h rfl hi (by simp; omega) hc hf hv ha
  · rw [e]
    exact h

theorem LinkState.bounded_countFraming {x : LinkState} (h : x.bounded = true) :
    ({ x with framingErrors := saturate Config.counterMax x.framingErrors } : LinkState).bounded = true := by
  obtain ⟨hi, ho, hc, hf, hv, ha, _⟩ := x.bounded_iff.mp h
  exact LinkState.bounded_of_receiver h rfl hi ho hc (saturate_le hf) hv ha

theorem LinkState.bounded_countAdvisoryLost {x : LinkState} (h : x.bounded = true) :
    ({ x with advisoriesLost := saturate Config.counterMax x.advisoriesLost } : LinkState).bounded = true := by
  obtain ⟨hi, ho, hc, hf, hv, ha, _⟩ := x.bounded_iff.mp h
  exact LinkState.bounded_of_receiver h rfl hi ho hc hf hv (saturate_le ha)

theorem LinkState.bounded_clearCounters {x : LinkState} (h : x.bounded = true) : x.clearCounters.bounded = true := by
  obtain ⟨hi, ho, _⟩ := x.bounded_iff.mp h
  exact LinkState.bounded_of_receiver h rfl hi ho (Nat.zero_le _) (Nat.zero_le _) (Nat.zero_le _) (Nat.zero_le _)

/-- A receiver that holds no bytes of a body keeps any link's bounds. -/
theorem LinkState.bounded_setReceiver {x : LinkState} {r : Receiver} (h : x.bounded = true)
    (hr : ∀ length got last, r = .body length got last → within 6 297 length = true ∧ got.length < length) :
    ({ x with receiver := r } : LinkState).bounded = true := by
  rw [LinkState.bounded_iff] at h ⊢
  obtain ⟨hi, ho, hc, hf, hv, ha, _⟩ := h
  exact ⟨hi, ho, hc, hf, hv, ha, hr⟩

theorem LinkState.bounded_hunt {x : LinkState} (h : x.bounded = true) : x.hunt.bounded = true :=
  LinkState.bounded_setReceiver h (by simp)

theorem LinkState.bounded_offer {x : LinkState} (f : Frame) (h : x.bounded = true) : (x.offer f).bounded = true := by
  obtain ⟨hi, ho, hc, hf, hv, ha, _⟩ := x.bounded_iff.mp h
  unfold LinkState.offer
  split
  · next room =>
    simp only [Config.inboundPlaces] at room
    exact LinkState.bounded_of_receiver h rfl (by simp; omega) ho hc hf hv ha
  · exact LinkState.bounded_of_receiver h rfl hi ho hc hf (saturate_le hv) ha

theorem LinkState.bounded_complete {x : LinkState} (length : Nat) (got : List Byte) (h : x.bounded = true) :
    (x.complete length got).bounded = true := by
  unfold LinkState.complete
  split
  · exact LinkState.bounded_offer _ (LinkState.bounded_hunt h)
  · obtain ⟨hi, ho, hc, hf, hv, ha, _⟩ := x.bounded_iff.mp h
    exact LinkState.bounded_of_receiver (LinkState.bounded_hunt h) rfl hi ho (saturate_le hc) hf hv ha

/-- A byte that completes no frame leaves the partial frame shorter than its length field says (R2). -/
theorem LinkState.bounded_receive {x : LinkState} (now : Time) (b : Byte) (h : x.bounded = true) (hc : x.completing = none) :
    (x.receive now b).bounded = true := by
  unfold LinkState.receive
  split
  · split
    · exact LinkState.bounded_setReceiver h (by simp)
    · split
      · exact h
      · exact LinkState.bounded_setReceiver (LinkState.bounded_countFraming h) (by simp)
  · exact LinkState.bounded_setReceiver h (by simp)
  · next low _ _ =>
    dsimp only
    split
    · next inRange =>
      refine LinkState.bounded_setReceiver h fun length got last e => ?_
      obtain ⟨rfl, rfl, _⟩ := Receiver.body.inj e
      have least : 6 ≤ leValue [low, b] := by
        simp only [within, Bool.and_eq_true, decide_eq_true_eq] at inRange
        exact inRange.1
      exact ⟨inRange, Nat.lt_of_lt_of_le (by decide) least⟩
    · exact LinkState.bounded_hunt (LinkState.bounded_countFraming h)
  · next length got last e =>
    obtain ⟨_, _, _, _, _, _, partialFrame⟩ := x.bounded_iff.mp h
    obtain ⟨range, shorter⟩ := partialFrame length got last e
    have more : got.length + 1 ≠ length := by
      intro full
      simp [LinkState.completing, e, full] at hc
    refine LinkState.bounded_setReceiver h fun length' got' last' e' => ?_
    obtain ⟨rfl, rfl, _⟩ := Receiver.body.inj e'
    exact ⟨range, by simp; omega⟩

theorem LinkState.bounded_transmitted {x : LinkState} (running : Bool) (h : x.bounded = true) :
    (x.transmitted running).bounded = true := by
  obtain ⟨hi, ho, hc, hf, hv, ha, _⟩ := x.bounded_iff.mp h
  exact LinkState.bounded_of_receiver h rfl hi (by simp [LinkState.transmitted]; omega) hc hf hv ha

theorem LinkState.bounded_initial (level : Bool) : (LinkState.initial level).bounded = true := by
  simp [LinkState.bounded_iff, LinkState.initial]

/-! ### The Memory Port (R149) -/

theorem Port.bounded_iff (q : Port) :
    q.bounded = true ↔ q.queue.length ≤ 16 ∧ (q.waiting = [] ∨ q.queue.length = 16) := by
  simp only [Port.bounded, Bool.and_eq_true, Bool.or_eq_true, decide_eq_true_eq, List.isEmpty_iff]
  rfl

theorem Port.bounded_request {q : Port} (now : Time) (op : MemoryOp) (h : q.bounded = true) :
    (q.request now op).bounded = true := by
  rw [Port.bounded_iff] at h ⊢
  obtain ⟨places, line⟩ := h
  obtain ⟨empty, e⟩ | ⟨_, room, e⟩ | ⟨full, e⟩ := q.request_cases now op
  · simp [empty] at line
    simp [e, line]
  · have none : q.waiting = [] := line.resolve_right (by omega)
    rw [e]
    exact ⟨by simp; omega, .inl none⟩
  · rw [e]
    exact ⟨places, .inr (Nat.le_antisymm places full)⟩

/-- An operation that ends leaves a place, which the oldest waiting one takes: a line is left only behind a full queue. -/
theorem Port.bounded_finish {q : Port} (now : Time) (h : q.bounded = true) : (q.finish now).bounded = true := by
  rw [Port.bounded_iff] at h ⊢
  obtain ⟨places, line⟩ := h
  unfold Port.finish
  cases e : q.waiting with
  | nil => simp; omega
  | cons op rest =>
    have full : q.queue.length = 16 := line.resolve_left (by simp [e])
    simp [full]

/-! ### What the shared operations keep -/

namespace Part.Fits

variable {k : Option Link} {p : Part}

theorem link_bounded (h : p.Fits k) (l : Link) : (p.link l).bounded = true := h.1 l

/-- A part that agrees in what the bounds are about keeps them. -/
theorem of_eq {q : Part} (h : p.Fits k)
    (e : (q.links, q.kept, q.noticeList, q.noticesLost, q.reheard, q.staleReplies, q.exceptions, q.exceptionsLost, q.port,
        q.clockUnit.second)
      = (p.links, p.kept, p.noticeList, p.noticesLost, p.reheard, p.staleReplies, p.exceptions, p.exceptionsLost, p.port,
        p.clockUnit.second)) : q.Fits k := by
  simp only [Prod.mk.injEq] at e
  obtain ⟨hl, hk, hn, hm, hr, hs, he, hx, hp, hc⟩ := e
  unfold Part.Fits Part.link
  rw [hl, hk, hn, hm, hr, hs, he, hx, hp, hc]
  exact h

theorem setCheck (h : p.Fits k) (i : Nat) (c : Option Check) : (p.setCheck i c).Fits k := h
theorem setTerminal (h : p.Fits k) (n : Nat) (e : RosterEntry) : (p.setTerminal n e).Fits k := h
theorem setClaim (h : p.Fits k) (i : Nat) (c : Option Claim) : (p.setClaim i c).Fits k := h
theorem setEntry (h : p.Fits k) (i : Nat) (e : EntryCell) : (p.setEntry i e).Fits k := h
theorem setJournal (h : p.Fits k) (j : Journal) : (p.setJournal j).Fits k := h
theorem setControl (h : p.Fits k) (c : Control) : (p.setControl c).Fits k := h
theorem setDeadlines (h : p.Fits k) (ds : List Deadline) : (p.setDeadlines ds).Fits k := h
theorem cancel (h : p.Fits k) (owner : Owner) : (p.cancel owner).Fits k := h
theorem arm (h : p.Fits k) (owner : Owner) (interval : Time) : (p.arm owner interval).Fits k := h
theorem rearm (h : p.Fits k) (owner : Owner) (interval : Time) : (p.rearm owner interval).Fits k := h
theorem deliver (h : p.Fits k) : p.deliver.Fits k := h


/-! The operations of Machine/Ops.lean. -/

theorem setLink (h : p.Fits k) (l : Link) {x : LinkState} (hx : x.bounded = true) : (p.setLink l x).Fits k := by
  refine ⟨fun j => ?_, h.2⟩
  by_cases e : l = j
  · subst e
    rw [Part.link_setLink_same]
    exact hx
  · rw [Part.link_setLink_other p x e]
    exact h.link_bounded j

theorem enqueue (h : p.Fits k) (l : Link) (f : Frame) : (p.enqueue l f).Fits k :=
  h.setLink l (LinkState.bounded_enqueue f (h.link_bounded l))

/-- Giving up the kept place leaves none kept (R6). -/
theorem releasePlace (h : p.Fits k) : p.releasePlace.Fits none := by
  obtain ⟨links, _, rest⟩ := h
  exact ⟨links, rfl, rest⟩

theorem reply (h : p.Fits k) (l : Link) (f : Frame) : (p.reply l f).Fits none := h.releasePlace.enqueue l f

theorem countFraming (h : p.Fits k) (l : Link) : (p.countFraming l).Fits k :=
  h.setLink l (LinkState.bounded_countFraming (h.link_bounded l))

theorem countAdvisoryLost (h : p.Fits k) (l : Link) : (p.countAdvisoryLost l).Fits k :=
  h.setLink l (LinkState.bounded_countAdvisoryLost (h.link_bounded l))

theorem placeNotice (h : p.Fits k) (f : Frame) : (p.placeNotice f).Fits k := by
  obtain ⟨_, _, e⟩ | ⟨_, room, e⟩ | ⟨_, _, e⟩ := p.placeNotice_cases f <;> rw [e]
  · exact h.enqueue .ol f
  · obtain ⟨links, kept, _, rest⟩ := h
    exact ⟨links, kept, by simp; omega, rest⟩
  · obtain ⟨links, kept, list, lost, rest⟩ := h
    exact ⟨links, kept, list, saturate_le lost, rest⟩

theorem notice (h : p.Fits k) (kind : Nat) (fields : List Byte) : (p.notice kind fields).Fits k :=
  placeNotice (p := { p with noticeSequence := p.noticeSequence + 1 }) h _

theorem advise (h : p.Fits k) (n : Nat) (kind : Byte) (body : List Byte) : (p.advise n kind body).Fits k := by
  unfold Part.advise
  split
  · exact h
  · split
    · exact h.enqueue _ _
    · exact h.countAdvisoryLost _

theorem hold (h : p.Fits k) (n : Nat) (f : Frame) : (p.hold n f).Fits k := h

theorem lateReply (h : p.Fits k) (n : Nat) (f : Frame) : (p.lateReply n f).Fits k := by
  unfold Part.lateReply
  split
  · exact h.hold n f
  · split
    · exact h.enqueue _ f
    · exact h.hold n f

theorem raise (h : p.Fits k) (e : ExceptionEntry) : (p.raise e).Fits k := by
  obtain ⟨links, kept, list, lost, heard, stale, exceptions, exceptionsLost, rest⟩ := h
  obtain ⟨room, _, e⟩ | ⟨_, _, e⟩ := p.raise_cases e <;> rw [e] <;> apply notice
  · exact ⟨links, kept, list, lost, heard, stale, by simp; omega, exceptionsLost, rest⟩
  · exact ⟨links, kept, list, lost, heard, stale, exceptions, saturate_le exceptionsLost, rest⟩

theorem setPort (h : p.Fits k) {q : Port} (hq : q.bounded = true) : (p.setPort q).Fits k := by
  obtain ⟨links, kept, list, lost, heard, stale, exceptions, exceptionsLost, _, second⟩ := h
  exact ⟨links, kept, list, lost, heard, stale, exceptions, exceptionsLost, hq, second⟩

theorem port_bounded (h : p.Fits k) : p.port.bounded = true := by
  obtain ⟨_, _, _, _, _, _, _, _, port, _⟩ := h
  exact port

theorem request (h : p.Fits k) (op : MemoryOp) : (p.request op).Fits k :=
  h.setPort (Port.bounded_request _ op h.port_bounded)

/-! The Claim Table. -/

theorem renewRecord (h : p.Fits k) (i : Nat) : (p.renewRecord i).Fits k := h

theorem renewAll (h : p.Fits k) (xs : List (Nat × Claim)) : (p.renewAll xs).Fits k := by
  induction xs generalizing p with
  | nil => exact h
  | cons x rest ih =>
    unfold Part.renewAll
    split
    · exact ih (h.renewRecord _)
    · exact ih h

theorem renewLeases (h : p.Fits k) (terminal number : Nat) : (p.renewLeases terminal number).Fits k := h.renewAll _

theorem countClaim (h : p.Fits k) (n : Nat) (f : Nat → Nat) : (p.countClaim n f).Fits k := h

theorem freeClaim (h : p.Fits k) (i : Nat) (c : Claim) : (p.freeClaim i c).Fits k :=
  ((h.cancel _).setClaim _ _).countClaim _ _

theorem loseClaim (h : p.Fits k) (i : Nat) (c : Claim) (cause : Nat) : (p.loseClaim i c cause).Fits k :=
  (h.freeClaim i c).advise _ _ _

theorem loseAll (h : p.Fits k) (xs : List (Nat × Claim)) (cause : Nat) : (p.loseAll xs cause).Fits k := by
  induction xs generalizing p with
  | nil => exact h
  | cons x rest ih => exact ih (h.loseClaim _ _ _)

theorem freeAll (h : p.Fits k) (xs : List (Nat × Claim)) : (p.freeAll xs).Fits k := by
  induction xs generalizing p with
  | nil => exact h
  | cons x rest ih => exact ih (h.freeClaim _ _)

theorem loseActive (h : p.Fits k) (terminal cause : Nat) : (p.loseActive terminal cause).Fits k := h.loseAll _ _

theorem loseOnCheck (h : p.Fits k) (number cause : Nat) : (p.loseOnCheck number cause).Fits k := h.loseAll _ _

theorem pin (h : p.Fits k) (terminal number share : Nat) : (p.pin terminal number share).Fits k := by
  unfold Part.pin
  split
  · exact (h.cancel _).setClaim _ _
  · exact h

theorem unpin (h : p.Fits k) (terminal number : Nat) : (p.unpin terminal number).Fits k := by
  unfold Part.unpin
  split
  · split
    · exact (h.setClaim _ _).renewRecord _
    · exact (h.setClaim _ _).renewRecord _
    · exact h.loseClaim _ _ _
    · exact h.loseClaim _ _ _
  · exact h

theorem grant (h : p.Fits k) (terminal number : Nat) (wanted : Scope) : (p.grant terminal number wanted).2.Fits k := by
  unfold Part.grant
  split
  · dsimp only
    split
    · exact h.renewRecord _
    · exact h
  · exact ((h.setClaim _ _).countClaim _ _).renewRecord _

theorem carryOutClaim (h : p.Fits k) (slot : Nat) (c : Check) (terminal : Nat) (wanted : Scope) :
    (p.carryOutClaim slot c terminal wanted).1.Fits k :=
  (((h.freeAll _).grant terminal c.number wanted).renewAll _).setCheck _ _

/-! The Roster. -/

theorem hear (h : p.Fits k) (t : Tl) (f : Frame) : (p.hear t f).Fits k := h

theorem setRosterState (h : p.Fits k) (n : Nat) (state : RosterState) : (p.setRosterState n state).Fits k := h

theorem controlReset (h : p.Fits k) (n : Nat) : (p.controlReset n).Fits k := h

theorem controlBar (h : p.Fits k) (n : Nat) : (p.controlBar n).Fits k := by
  unfold Part.controlBar
  split
  · exact (h.setRosterState n _).loseActive _ _
  · exact (h.setRosterState n _).loseActive _ _
  · exact h.setRosterState n _
  · exact h.setRosterState n _

theorem controlUnbar (h : p.Fits k) (n : Nat) : (p.controlUnbar n).Fits k := by
  unfold Part.controlUnbar
  split
  · exact h.setRosterState n _
  · exact h
  · exact h
  · exact h

/-! The Share Engine and the Check Table. -/

theorem adviseHolders (h : p.Fits k) (c : Check) (cause : Nat) (changed holders : List Nat) :
    (p.adviseHolders c cause changed holders).Fits k := by
  induction holders generalizing p with
  | nil => exact h
  | cons n rest ih =>
    unfold Part.adviseHolders
    dsimp only
    split
    · exact ih h
    · exact ih (h.advise _ _ _)

theorem shareChanged (h : p.Fits k) (c : Check) (cause : Nat) (changed : List Nat) (attributed : Option Nat) :
    (p.shareChanged c cause changed attributed).Fits k := h.adviseHolders _ _ _ _

theorem evaluate (h : p.Fits k) (slot : Nat) : (p.evaluate slot).Fits k := by
  unfold Part.evaluate
  split
  · exact h
  · split
    · split
      · exact (h.setCheck _ _).notice _ _
      · exact h
    · split
      · exact h
      · exact h.setCheck _ _
    · exact h
    · exact h

theorem accept (h : p.Fits k) (slot id : Nat) (attributed : Option Nat) : (p.accept slot id attributed).Fits k := by
  unfold Part.accept
  split
  · exact h
  · split
    · exact h
    · exact ((h.setCheck _ _).evaluate _).shareChanged _ _ _ _

theorem orphanSlot (h : p.Fits k) (slot : Nat) : (p.orphanSlot slot).Fits k := h

theorem freeSlot (h : p.Fits k) (slot : Nat) (c : Check) (cause : Nat) : (p.freeSlot slot c cause).Fits k :=
  ((h.loseOnCheck _ _).orphanSlot _).setCheck _ _

/-! The Journal Unit. -/

theorem headTest (h : p.Fits k) : p.headTest.Fits k := by
  unfold Part.headTest
  split
  · split
    · exact h.request _
    · exact h
  · exact h

theorem highWaterTest (h : p.Fits k) : p.highWaterTest.Fits k := by
  unfold Part.highWaterTest
  split
  · exact (h.setJournal _).notice _ _
  · exact h

theorem reserve (h : p.Fits k) (c : SlotContents) : (p.reserve c).2.Fits k :=
  ((h.setJournal _).request _).highWaterTest

theorem voidPending (h : p.Fits k) (slot : Nat) : (p.voidPending slot).Fits k := by
  unfold Part.voidPending
  split
  · split
    · exact ((h.setJournal _).request _).headTest
    · exact h
  · exact h

theorem voidReserved (h : p.Fits k) (slot : Nat) : (p.voidReserved slot).Fits k := by
  unfold Part.voidReserved
  split
  · split
    · exact (h.setJournal _).request _
    · exact h
  · exact h

/-! The authorization table. -/

theorem setFreeList (h : p.Fits k) (free : List Nat) : ({ p with freeList := free } : Part).Fits k := h
theorem setUse (h : p.Fits k) (i : Nat) (x : Option Entry) : (p.setUse i x).Fits k := h
theorem queueEntry (h : p.Fits k) (i : Nat) : (p.queueEntry i).Fits k := h
theorem unqueueEntry (h : p.Fits k) (i : Nat) : (p.unqueueEntry i).Fits k := h
theorem freeEntry (h : p.Fits k) (i : Nat) : (p.freeEntry i).Fits k :=
  (((h.cancel _).unqueueEntry i).setEntry i _).setFreeList _
theorem watchEntry (h : p.Fits k) (i : Nat) (x : Entry) : (p.watchEntry i x).Fits k :=
  ((h.unqueueEntry i).setUse i _).rearm _ _
theorem convertEntry (h : p.Fits k) (i : Nat) (x : Entry) (code : List Byte) (source : Source) (sequence : BitVec 32) :
    (p.convertEntry i x code source sequence).Fits k := ((h.setUse i _).rearm _ _).queueEntry i
theorem requeue (h : p.Fits k) (i : Nat) (x : Entry) : (p.requeue i x).Fits k := (h.setUse i _).queueEntry i

theorem takeEntry (h : p.Fits k) (x : Entry) (interval : Time) : (p.takeEntry x interval).Fits k := by
  cases free : p.freeList with
  | nil =>
    unfold Part.takeEntry
    rw [free]
    exact h
  | cons i rest =>
    rw [p.takeEntry_cons x interval free]
    exact h.of_eq rfl

/-! The Tender Unit. -/

theorem setTenderState (h : p.Fits k) (slot id : Nat) (state : TenderState) : (p.setTenderState slot id state).Fits k := by
  unfold Part.setTenderState
  split
  · exact h.setCheck _ _
  · exact h

theorem setInFlight (h : p.Fits k) (n : Nat) (flag : Bool) : (p.setInFlight n flag).Fits k := h

theorem sendOutcome (h : p.Fits k) (slot id : Nat) : (p.sendOutcome slot id).Fits k := by
  unfold Part.sendOutcome
  split
  · exact h
  · split
    · exact h
    · exact h.lateReply _ _

theorem leaveFlight (h : p.Fits k) (slot id : Nat) (state : TenderState) : (p.leaveFlight slot id state).Fits k := by
  unfold Part.leaveFlight
  split
  · exact h
  · split
    · exact h
    · have flown := (h.setTenderState slot id state).setInFlight
      dsimp only
      split
      · exact (((flown _ false).accept _ _ _).unpin _ _).evaluate _ |>.sendOutcome _ _
      · exact ((flown _ false).unpin _ _).evaluate _ |>.sendOutcome _ _

theorem decideOffline (h : p.Fits k) (slot : Nat) (c : Check) (table : Nat) (t : Tender) (eligible : Bool)
    (token : List Byte) : (p.decideOffline slot c table t eligible token).Fits k := by
  unfold Part.decideOffline
  split
  · exact (h.reserve _).setTenderState _ _ _
  · exact h.leaveFlight _ _ _

theorem enterFlight (h : p.Fits k) (terminal number share : Nat) : (p.enterFlight terminal number share).Fits k :=
  ((h.setInFlight _ _).pin _ _ _).renewLeases _ _

theorem payOnline (h : p.Fits k) (f : Frame) (slot : Nat) (c : Check) (tip : Nat) : (p.payOnline f slot c tip).Fits k :=
  ((h.setCheck _ _).takeEntry _ _).enterFlight _ _ _

theorem payOffline (h : p.Fits k) (f : Frame) (slot : Nat) (c : Check) (tip : Nat) :
    (p.payOffline f slot c tip).1.Fits k := by
  unfold Part.payOffline
  dsimp only
  split <;> dsimp only
  · exact ((h.reserve _).setCheck _ _).enterFlight _ _ _
  · exact (h.setCheck _ _).renewLeases _ _

theorem voidOutside (h : p.Fits k) (slot : Nat) (c : Check) (t : Tender) : (p.voidOutside slot c t).Fits k := by
  unfold Part.voidOutside
  split
  · exact h.takeEntry _ _
  · exact h.voidPending _
  · exact h

/-! The gateway link. -/

theorem changeAl (h : p.Fits k) (new : AlState) (cause : Nat) : (p.changeAl new cause).Fits k :=
  notice (p := { p with alState := new }) h _ _

theorem alHeard (h : p.Fits k) : p.alHeard.Fits k := by
  unfold Part.alHeard
  split
  · dsimp only
    split
    · exact (h.arm _ _).changeAl _ _
    · exact ((h.arm _ _).arm _ _).changeAl _ _
  · exact h.rearm _ _
  · exact h.rearm _ _

theorem drainFault (h : p.Fits k) : p.drainFault.Fits k := by
  unfold Part.drainFault
  split
  · split
    · exact h
    · exact (h.arm _ _).changeAl _ _
  · exact h.rearm _ _
  · exact h

/-- An answer keeps the bounds when what it does to the entry it matches does (R129). -/
theorem answer (h : p.Fits k) (f : Frame) (fits : Entry → Bool) {act : Nat → Entry → Part → Part}
    (ha : ∀ i x, (act i x p).Fits k) : (p.answer f fits act).Fits k := by
  unfold Part.answer
  split
  · exact ha _ _
  · obtain ⟨links, kept, list, lost, heard, stale, rest⟩ := h
    exact ⟨links, kept, list, lost, heard, saturate_le stale, rest⟩

theorem answerInTime (h : p.Fits k) (f : Frame) (i : Nat) (x : Entry) : (p.answerInTime f i x).Fits k := by
  unfold Part.answerInTime
  split
  · exact (h.leaveFlight _ _ _).freeEntry _
  · exact h.freeEntry _

theorem lateOnDeferred (h : p.Fits k) (f : Frame) (x : Entry) (slot id j : Nat) :
    (p.lateOnDeferred f x slot id j).Fits k := by
  unfold Part.lateOnDeferred
  split
  · exact (h.setTenderState _ _ _).voidPending _
  · exact ((h.setTenderState _ _ _).voidPending _).raise _

theorem lateUnwanted (h : p.Fits k) (f : Frame) (i : Nat) (x : Entry) : (p.lateUnwanted f i x).Fits k := by
  unfold Part.lateUnwanted
  split
  · exact h.convertEntry _ _ _ _ _
  · exact h.freeEntry _

theorem answerLate (h : p.Fits k) (f : Frame) (i : Nat) (x : Entry) : (p.answerLate f i x).Fits k := by
  unfold Part.answerLate
  split
  · exact h.lateUnwanted f i x
  · split
    · exact (h.setTenderState _ _ _).freeEntry _
    · exact (h.lateOnDeferred _ _ _ _ _).freeEntry _
    all_goals exact h.lateUnwanted f i x

theorem authReply (h : p.Fits k) (f : Frame) : (p.authReply f).Fits k := by
  refine h.answer _ _ fun i x => ?_
  split
  · exact h.answerInTime f i x
  · exact h.answerLate f i x

theorem reversalReply (h : p.Fits k) (f : Frame) : (p.reversalReply f).Fits k := h.answer _ _ fun i _ => h.freeEntry i

theorem settleDeferred (h : p.Fits k) (x : Entry) (state : TenderState) : (p.settleDeferred x state).Fits k := by
  unfold Part.settleDeferred
  split
  · split
    · exact h.setTenderState _ _ _
    all_goals exact h
  · exact h

theorem submitPending (h : p.Fits k) (x : Entry) (slot : Nat) (approved : Bool) : (p.submitPending x slot approved).Fits k := by
  unfold Part.submitPending
  split
  · exact (h.settleDeferred _ _).voidPending _
  · exact ((h.settleDeferred _ _).voidPending _).raise _

theorem answerSubmission (h : p.Fits k) (f : Frame) (i : Nat) (x : Entry) (slot : Nat) (sequence : BitVec 32) :
    (p.answerSubmission f i x slot sequence).Fits k := by
  unfold Part.answerSubmission
  dsimp only
  split
  · exact (h.submitPending _ _ _).freeEntry _
  · split
    · exact h.convertEntry _ _ _ _ _
    · exact h.freeEntry _

theorem submitReply (h : p.Fits k) (f : Frame) : (p.submitReply f).Fits k := by
  refine h.answer _ _ fun i x => ?_
  split
  · exact h.answerSubmission _ _ _ _ _
  · exact h
  · exact h

theorem decideEntry (h : p.Fits k) (x : Entry) (eligible : Bool) (token : List Byte) :
    (p.decideEntry x eligible token).Fits k := by
  unfold Part.decideEntry
  split
  · exact h.decideOffline _ _ _ _ _ _
  · exact h

theorem gatewayError (h : p.Fits k) (f : Frame) : (p.gatewayError f).Fits k := by
  refine h.answer _ _ fun i x => ?_
  split
  · exact (h.decideEntry _ _ _).freeEntry _
  · exact h.requeue _ _
  · exact (h.freeEntry _).drainFault

/-- The expiry of an entry keeps the bounds when what it does to the entry does (R172). -/
theorem expireEntry (h : p.Fits k) (fits : Entry → Bool) {act : Nat → Entry → Part → Part}
    (ha : ∀ i x, (act i x p.deliver).Fits k) : (p.expireEntry fits act).Fits k := by
  unfold Part.expireEntry
  split
  · split
    · split
      · exact ha _ _
      · exact h
    · exact h
  all_goals exact h

theorem liveTimeout (h : p.Fits k) : p.liveTimeout.Fits k := by
  refine h.expireEntry _ fun i x => ?_
  split
  · dsimp only
    split
    · exact (h.deliver.decideEntry _ _ _).watchEntry _ _
    · exact (h.deliver.decideEntry _ _ _).freeEntry _
  · exact h.deliver
  · exact h.deliver

theorem watchExpiry (h : p.Fits k) : p.watchExpiry.Fits k := h.expireEntry _ fun i _ => h.deliver.freeEntry i

theorem drainTimeout (h : p.Fits k) : p.drainTimeout.Fits k :=
  h.expireEntry _ fun i x => (h.deliver.watchEntry i x).drainFault

theorem reversalExpiry (h : p.Fits k) : p.reversalExpiry.Fits k := by
  refine h.expireEntry _ fun i x => ?_
  split
  · exact (h.deliver.freeEntry _).raise _
  · exact h.deliver
  · exact h.deliver

theorem alAliveExpiry (h : p.Fits k) : p.alAliveExpiry.Fits k := by
  unfold Part.alAliveExpiry
  split
  · split
    · exact (h.deliver.cancel _).changeAl _ _
    · exact (h.deliver.cancel _).changeAl _ _
    · exact h.deliver
  · exact h

theorem alSettleExpiry (h : p.Fits k) : p.alSettleExpiry.Fits k := by
  unfold Part.alSettleExpiry
  split
  · split
    · exact h.deliver.changeAl _ _
    · exact h.deliver
    · exact h.deliver
  · exact h

theorem sendEntry (h : p.Fits k) (i : Nat) (x : Entry) : (p.sendEntry i x).Fits k :=
  ((h.unqueueEntry i).setUse i _).enqueue _ _

theorem startSubmission (h : p.Fits k) : p.startSubmission.Fits k := by
  unfold Part.startSubmission
  split
  · exact (h.takeEntry _ _).enqueue _ _
  · exact h

theorem arbiterGrant (h : p.Fits k) : p.arbiterGrant.Fits k := by
  unfold Part.arbiterGrant
  split
  · split
    · exact h.sendEntry _ _
    · exact h.startSubmission
  · exact h

end Part.Fits
end Sys2Proof.Machine
end

section
/-! PROOFS. The bounds (O6), continued: the clock, the receivers, start-up, the restore and the Memory Port; then every
command, and every step. -/

namespace Sys2Proof.Machine

/-- A tick leaves the second counter below 1000 (R169). -/
theorem ClockUnit.tick_second_le {u : ClockUnit} (h : u.second ≤ 999) : u.tick.second ≤ 999 := by
  unfold ClockUnit.tick
  dsimp only
  split <;> omega

namespace Part.Fits

variable {k : Option Link} {p : Part}

/-! The Service Clock Unit. -/

/-- A Service Clock Unit whose second counter stays below 1000 keeps the bounds (R169). -/
theorem setClock (h : p.Fits k) {u : ClockUnit} (hu : u.second ≤ 999) : (p.setClock u).Fits k := by
  obtain ⟨links, kept, list, lost, heard, stale, exceptions, exceptionsLost, port, _⟩ := h
  exact ⟨links, kept, list, lost, heard, stale, exceptions, exceptionsLost, port, hu⟩

theorem second_le (h : p.Fits k) : p.clockUnit.second ≤ 999 := by
  obtain ⟨_, _, _, _, _, _, _, _, _, second⟩ := h
  exact second

theorem setCalibration (h : p.Fits k) (c : Calibration) : (p.setCalibration c).Fits k := h

theorem clockTick (h : p.Fits k) : p.clockTick.Fits k := by
  unfold Part.clockTick
  split
  · exact h.setClock (ClockUnit.tick_second_le h.second_le)
  · exact h

theorem systemClock (h : p.Fits k) : p.systemClock.Fits k := by
  unfold Part.systemClock
  split
  · refine h.setClock ?_
    unfold ClockUnit.systemClock
    split
    · exact h.second_le
    · exact ClockUnit.tick_second_le h.second_le
  · exact h

theorem countSecond (h : p.Fits k) (slot : Nat) (c : Check) : (p.countSecond slot c).Fits k := by
  unfold Part.countSecond
  split
  · dsimp only
    split
    · exact (h.setCheck _ _).notice _ _
    · exact h.setCheck _ _
  · exact h

theorem countAll (h : p.Fits k) (xs : List (Nat × Check)) : (p.countAll xs).Fits k := by
  induction xs generalizing p with
  | nil => exact h
  | cons x rest ih => exact ih (h.countSecond _ _)

theorem wholeSecond (h : p.Fits k) : p.wholeSecond.Fits k := by
  unfold Part.wholeSecond
  split
  · have counted := h.setClock (u := { p.clockUnit with secondsDue := p.clockUnit.secondsDue - 1 }) h.second_le
    dsimp only
    split
    · exact counted.countAll _
    · exact counted
  · exact h

theorem calibrationFails (h : p.Fits k) (cause clocks edges : Nat) : (p.calibrationFails cause clocks edges).Fits k :=
  (h.setClock (u := { p.clockUnit with calibration := .idle, calFail := true }) h.second_le).notice _ _

theorem calibrated (h : p.Fits k) (clocks : Nat) : (p.calibrated clocks).Fits k := by
  unfold Part.calibrated
  dsimp only
  split
  · exact (h.setClock (by exact h.second_le)).notice _ _
  · exact h.calibrationFails _ _ _

theorem refppsEdge (h : p.Fits k) : p.refppsEdge.Fits k := by
  unfold Part.refppsEdge
  split
  · split
    · exact h
    · exact (h.setCalibration _).rearm _ _
    · split
      · exact (h.setCalibration _).rearm _ _
      · exact (h.cancel _).calibrated _
  · exact h

theorem calGuardExpiry (h : p.Fits k) : p.calGuardExpiry.Fits k := by
  unfold Part.calGuardExpiry
  split
  · split
    · exact h.deliver
    · exact h.deliver.calibrationFails _ _ _
    · exact h.deliver.calibrationFails _ _ _
  · exact h

theorem claimLeaseExpiry (h : p.Fits k) : p.claimLeaseExpiry.Fits k := by
  unfold Part.claimLeaseExpiry
  split
  · split
    · exact h.deliver.loseClaim _ _ _
    · exact h.deliver
  all_goals exact h

/-! The receivers and the transmitters. -/

theorem frameComplete (h : p.Fits k) (l : Link) (b : Byte) : (p.frameComplete l b).Fits k := by
  unfold Part.frameComplete
  split
  · split
    · exact h.setLink l (LinkState.bounded_complete _ _ (h.link_bounded l))
    · exact h
  · exact h

theorem byteReceived (h : p.Fits k) (l : Link) (b : Byte) : (p.byteReceived l b).Fits k := by
  unfold Part.byteReceived
  split
  · split
    · exact h
    · next completesNone => exact h.setLink l (LinkState.bounded_receive _ _ (h.link_bounded l) completesNone)
  · exact h

/-- What was assembled is dropped and counted (R2). -/
theorem dropPartial (h : p.Fits k) (l : Link) : (p.setLink l (p.link l).countFraming.hunt).Fits k :=
  h.setLink l (LinkState.bounded_hunt (LinkState.bounded_countFraming (h.link_bounded l)))

theorem stopBitError (h : p.Fits k) (l : Link) : (p.stopBitError l).Fits k := by
  unfold Part.stopBitError
  split
  · exact h.dropPartial l
  · exact h

theorem interByteTimeout (h : p.Fits k) (l : Link) : (p.interByteTimeout l).Fits k := by
  unfold Part.interByteTimeout
  split
  · split
    · exact h.dropPartial l
    · exact h
  · exact h

theorem countReply (h : p.Fits k) (l : Link) : (p.countReply l).Fits k := by
  unfold Part.countReply
  split
  · exact h.setControl _
  · exact h

theorem frameTransmitted (h : p.Fits k) (l : Link) : (p.frameTransmitted l).Fits k := by
  unfold Part.frameTransmitted
  split
  · exact (h.setLink l (LinkState.bounded_transmitted _ (h.link_bounded l))).countReply l
  · exact h

theorem rdyIn (h : p.Fits k) (l : Link) (level : Bool) : (p.rdyIn l level).Fits k := h.setLink l (h.link_bounded l)

theorem heldReplyMove (h : p.Fits k) (t : Tl) : (p.heldReplyMove t).Fits k := by
  unfold Part.heldReplyMove
  split
  · split
    · exact (h.setTerminal _ _).enqueue _ _
    · exact h
  · exact h

theorem noticeMove (h : p.Fits k) : p.noticeMove.Fits k := by
  unfold Part.noticeMove
  split
  · next f rest list =>
    split
    · obtain ⟨links, kept, places, others⟩ := h
      rw [list] at places
      exact enqueue (p := { p with noticeList := rest }) ⟨links, kept, Nat.le_of_succ_le places, others⟩ .ol f
    · exact h
  · exact h

/-! Start-up and the preservation controller. -/

theorem enter (h : p.Fits k) (s : Startup) : (p.enter s).Fits k := h

theorem takeForce (h : p.Fits k) (v : Venue) (source : ConfigSource) (clamped : Bool) : (p.takeForce v source clamped).Fits k :=
  ((h.setControl _).setClock (by exact h.second_le)).request _

theorem awaitDownload (h : p.Fits k) : p.awaitDownload.Fits k := h

theorem enterLoading (h : p.Fits k) (straps : BitVec 2) : (p.enterLoading straps).Fits k := by
  unfold Part.enterLoading
  dsimp only
  split
  · exact (h.setControl _).takeForce _ _ _
  · split
    · exact h.setControl _
    · exact (h.setControl _).request _

theorem enterRestoring (h : p.Fits k) : p.enterRestoring.Fits k := (h.enter _).request _

theorem enterSaving (h : p.Fits k) : p.enterSaving.Fits k := (h.enter _).request _

theorem countByte (h : p.Fits k) (n : Nat) : (p.countByte n).2.Fits k := by
  unfold Part.countByte
  split
  · exact h
  · exact h

theorem enterReady (h : p.Fits k) : p.enterReady.Fits k := by
  have ready := ((h.countByte p.control.unknowns).enter .ready).notice noticeStartComplete
    ((p.countByte p.control.unknowns).2.startFields (p.countByte p.control.unknowns).1)
  unfold Part.enterReady
  dsimp only
  split
  · exact ready.enterSaving
  · exact ready

theorem pfailLevel (h : p.Fits k) (level : Bool) : (p.pfailLevel level).Fits k := by
  unfold Part.pfailLevel
  dsimp only
  split
  · exact enterSaving (p := { p with pfail := level }) h
  · exact h

theorem enterHalted (h : p.Fits k) : p.enterHalted.Fits k := by
  unfold Part.enterHalted
  split
  · exact (h.enter _).setClock h.second_le
  · exact h

theorem clearCounters (h : p.Fits k) : p.clearCounters.Fits k := by
  obtain ⟨links, kept, list, _, _, _, rest⟩ := h
  refine ⟨fun l => ?_, kept, list, Nat.zero_le _, Nat.zero_le _, Nat.zero_le _, rest⟩
  have cleared : p.clearCounters.link l = (p.link l).clearCounters := by
    match l with
    | .tl .tl0 | .tl .tl1 | .tl .tl2 | .tl .tl3 | .ol | .al => rfl
  rw [cleared]
  exact LinkState.bounded_clearCounters (links l)

theorem configure (h : p.Fits k) (records : List (List Byte)) (source : ConfigSource) : (p.configure records source).Fits k := by
  unfold Part.configure
  split
  · exact h.takeForce _ _ _
  · exact h

theorem configMissing (h : p.Fits k) : p.configMissing.Fits k := by
  unfold Part.configMissing
  split
  · exact (h.setControl _).takeForce _ _ _
  · exact h.awaitDownload

theorem configLoaded (h : p.Fits k) : p.configLoaded.Fits k := by
  unfold Part.configLoaded
  split
  · exact h.configure _ _
  · exact h.configMissing

/-! The restore. -/

theorem setPartial (h : p.Fits k) : p.setPartial.Fits k := h

theorem setImageStatus (h : p.Fits k) (status : ImageStatus) : (p.setImageStatus status).Fits k := h

theorem makeUnknown (h : p.Fits k) (slot : Nat) (c : Check) (t : Tender) (named : Option Nat) :
    (p.makeUnknown slot c t named).Fits k := ((h.setTenderState _ _ _).setControl _).raise _

theorem takeOut (h : p.Fits k) (slot : Nat) (t : Tender) : (p.takeOut slot t).Fits k := by
  unfold Part.takeOut
  split
  · exact h.setCheck _ _
  · exact h

theorem acceptSaved (h : p.Fits k) (slot id : Nat) (state : TenderState) : (p.acceptSaved slot id state).Fits k :=
  (h.setTenderState _ _ _).accept _ _ _

theorem voidMatching (h : p.Fits k) (isMatch : Bool) (j : Nat) : (p.voidMatching isMatch j).Fits k := by
  unfold Part.voidMatching
  split
  · exact h.voidPending j
  · exact h

theorem convertTender (h : p.Fits k) (slot : Nat) (c : Check) (named : List Nat) (t : Tender) :
    (p.convertTender slot c named t).1.Fits k := by
  unfold Part.convertTender
  split
  · exact (h.makeUnknown _ _ _ _).evaluate _
  · dsimp only
    split
    · split
      · exact (h.acceptSaved _ _ _).evaluate _
      · exact (h.makeUnknown _ _ _ _).evaluate _
    · exact ((h.acceptSaved _ _ _).voidMatching _ _).evaluate _
    · exact ((h.setTenderState _ _ _).voidMatching _ _).evaluate _
  · split
    · exact h
    · exact ((h.takeOut _ _).makeUnknown _ _ _ _).evaluate _
  all_goals exact h

theorem convertTenders (h : p.Fits k) (slot : Nat) (c : Check) (named : List Nat) (ts : List Tender) :
    (p.convertTenders slot c named ts).1.Fits k := by
  induction ts generalizing p named with
  | nil => exact h
  | cons t rest ih => exact ih (h.convertTender slot c named t) _

theorem rejectCheck (h : p.Fits k) (s : SavedCheck) : (p.rejectCheck s).Fits k := (h.setPartial.setControl _).raise _

theorem placeCheck (h : p.Fits k) (c : Check) (named : List Nat) : (p.placeCheck c named).1.Fits k :=
  ((h.setCheck _ _).setControl _).convertTenders _ _ _ _

theorem restoreChecks (h : p.Fits k) (clock : Time) (named : List Nat) (xs : List SavedCheck) :
    (p.restoreChecks clock named xs).Fits k := by
  induction xs generalizing p named with
  | nil => exact h
  | cons s rest ih =>
    unfold Part.restoreChecks
    split
    · exact ih (h.placeCheck _ _) _
    · exact ih (h.rejectCheck s) _

theorem restoreTerminals (h : p.Fits k) (ns : List Nat) : (p.restoreTerminals ns).Fits k := by
  induction ns generalizing p with
  | nil => exact h
  | cons n rest ih =>
    unfold Part.restoreTerminals
    split
    · exact ih (h.setRosterState _ _)
    · exact ih h

theorem restoreEntries (h : p.Fits k) (rs : List (List Byte)) : (p.restoreEntries rs).Fits k := by
  induction rs generalizing p with
  | nil => exact h
  | cons r rest ih =>
    unfold Part.restoreEntries
    split
    · exact ih (h.raise _)
    · exact ih h

theorem restore (h : p.Fits k) (image : SavedImage) : (p.restore image).Fits k :=
  ((h.restoreChecks _ _ _).restoreTerminals _).restoreEntries _

theorem imageRead (h : p.Fits k) : p.imageRead.Fits k := by
  unfold Part.imageRead
  split
  · exact (h.setImageStatus _).enterReady
  · exact (((h.setImageStatus _).setPartial).raise _).request _
  · exact ((h.setImageStatus _).restore _).request _

theorem imageFaulted (h : p.Fits k) : p.imageFaulted.Fits k := ((h.setImageStatus _).setPartial).request _

/-! The scan. -/

theorem requestAll (h : p.Fits k) (ops : List MemoryOp) : (p.requestAll ops).Fits k := by
  induction ops generalizing p with
  | nil => exact h
  | cons op rest ih => exact ih (h.request op)

theorem raiseAll (h : p.Fits k) (es : List ExceptionEntry) : (p.raiseAll es).Fits k := by
  induction es generalizing p with
  | nil => exact h
  | cons e rest ih => exact ih (h.raise e)

theorem scanned (h : p.Fits k) : p.scanned.Fits k :=
  ((((h.setJournal _).requestAll _).raiseAll _).headTest).highWaterTest

theorem scanFaulted (h : p.Fits k) : p.scanFaulted.Fits k := (h.setJournal _).highWaterTest

/-! The Memory Port. -/

theorem writeTransfer (h : p.Fits k) (op : MemoryOp) : (p.writeTransfer op).Fits k := by
  unfold Part.writeTransfer
  split
  · exact h
  · exact h

theorem tearTransfer (h : p.Fits k) (op : MemoryOp) : (p.tearTransfer op).Fits k := by
  unfold Part.tearTransfer
  split
  · exact h
  · exact h

theorem makePending (h : p.Fits k) (slot : Nat) : (p.makePending slot).Fits k := by
  unfold Part.makePending
  split
  · exact h.setJournal _
  · exact h

theorem appendDone (h : p.Fits k) (slot : Nat) : (p.appendDone slot).Fits k := by
  unfold Part.appendDone
  split
  · dsimp only
    split
    · exact (h.makePending _).leaveFlight _ _ _
    · exact (h.voidReserved _).headTest.leaveFlight _ _ _
  · exact h.makePending _

theorem appendFaulted (h : p.Fits k) (slot : Nat) : (p.appendFaulted slot).Fits k := by
  have voided := ((h.voidReserved slot).raise (p.memoryFault (.append slot))).headTest
  unfold Part.appendFaulted
  split
  · exact voided.leaveFlight _ _ _
  · exact voided

theorem completed (h : p.Fits k) (op : MemoryOp) : (p.completed op).Fits k := by
  unfold Part.completed
  split
  · exact h.appendDone _
  · exact h
  · exact (h.setJournal _).headTest
  · exact h
  · exact h.configLoaded
  · exact h.scanned.enterRestoring
  · exact h.imageRead
  · exact h
  · exact h.enterReady

theorem faulted (h : p.Fits k) (op : MemoryOp) : (p.faulted op).Fits k := by
  unfold Part.faulted
  split
  · exact h.appendFaulted _
  · exact h.raise _
  · exact (h.raise _).setJournal _
  · exact h.raise _
  · exact (h.raise _).configMissing
  · exact (h.raise _).scanFaulted.enterRestoring
  · exact (h.raise _).imageFaulted
  · exact h.raise _
  · exact (h.raise _).enterReady

theorem eraseRetry (h : p.Fits k) : p.eraseRetry.Fits k := by
  unfold Part.eraseRetry
  split
  · exact (h.setJournal _).headTest
  · exact h

theorem finishOperation (h : p.Fits k) : p.finishOperation.Fits k := h.setPort (Port.bounded_finish _ h.port_bounded)

theorem completeOperation (h : p.Fits k) (op : MemoryOp) : (p.completeOperation op).Fits k :=
  (h.finishOperation.completed op).eraseRetry

theorem faultOperation (h : p.Fits k) (op : MemoryOp) : (p.faultOperation op).Fits k :=
  (h.tearTransfer op).finishOperation.faulted op

theorem transferDone (h : p.Fits k) (op : MemoryOp) : (p.transferDone op).Fits k := by
  unfold Part.transferDone
  dsimp only
  split
  · exact (h.writeTransfer op).setPort (h.writeTransfer op).port_bounded
  · exact (h.writeTransfer op).completeOperation op

theorem transferEnd (h : p.Fits k) (error : Bool) : (p.transferEnd error).Fits k := by
  unfold Part.transferEnd
  split
  · exact h
  · split
    · split
      · exact h.faultOperation _
      · exact h
    · exact h.transferDone _

theorem transferLimit (h : p.Fits k) : p.transferLimit.Fits k := by
  unfold Part.transferLimit
  split
  · exact h
  · split
    · exact h.faultOperation _
    · exact h

theorem takeSnapshot (h : p.Fits k) : p.takeSnapshot.Fits k := by
  unfold Part.takeSnapshot
  split
  · exact h.setPort h.port_bounded
  · exact h

/-- Every block in its reset values keeps the bounds (R15, R149, R153, R164, R169). -/
theorem initial (memory : Memory) (level : Link → Bool) (pfail : Bool) (n : Nat) :
    (Part.initial memory level pfail n).Fits none := by
  refine ⟨fun l => ?_, rfl, Nat.zero_le _, Nat.zero_le _, Nat.zero_le _, Nat.zero_le _, Nat.zero_le _, Nat.zero_le _, rfl,
    Nat.zero_le _⟩
  match l with
  | .tl .tl0 | .tl .tl1 | .tl .tl2 | .tl .tl3 | .ol | .al => exact LinkState.bounded_initial _

theorem reset (p : Part) : p.reset.Fits none := (initial _ _ _ _).setControl _

theorem release (h : p.Fits k) (straps : BitVec 2) : (p.release straps).Fits k := by
  unfold Part.release
  split
  · exact h.enterLoading straps
  · exact h

theorem internalReset (h : p.Fits none) (straps : BitVec 2) : (p.internalReset straps).Fits none := by
  unfold Part.internalReset
  split
  · exact (reset p).enterLoading straps
  · exact h

/-! Taking frames (R4, R6). -/

theorem dropHead (h : p.Fits k) (l : Link) : (p.dropHead l).Fits k := by
  refine h.setLink l ?_
  obtain ⟨hi, ho, hc, hf, hv, ha, _⟩ := (p.link l).bounded_iff.mp (h.link_bounded l)
  exact LinkState.bounded_of_receiver (h.link_bounded l) rfl (by simp; omega) ho hc hf hv ha

theorem taken (h : p.Fits k) (l : Link) : (p.taken l).Fits (some l) := by
  obtain ⟨links, _, rest⟩ := h.dropHead l
  exact ⟨links, rfl, rest⟩

end Part.Fits

/-- What a request, or a part of one, comes to keeps the bounds: it refuses, or leaves a part that does. -/
def LeavesFit (k : Option Link) {α : Type} (r : Except Result (Part × α)) : Prop := ∀ q a, r = .ok (q, a) → q.Fits k

namespace LeavesFit

variable {k : Option Link} {α β : Type}

theorem error (r : Result) : LeavesFit k (.error r : Except Result (Part × α)) := fun _ _ e => nomatch e

theorem ok {q : Part} (h : q.Fits k) (a : α) : LeavesFit k (.ok (q, a)) := by
  intro _ _ e
  cases e
  exact h

/-- Only what follows a check can leave a part. -/
theorem bind {x : Except Result β} {rest : β → Except Result (Part × α)} (h : ∀ b, x = .ok b → LeavesFit k (rest b)) :
    LeavesFit k (x >>= rest) := by
  cases x with
  | error r => exact error r
  | ok b => exact h b rfl

/-- What follows a step that leaves a part goes on from that part. -/
theorem bind_part {x : Except Result (Part × β)} {rest : Part × β → Except Result (Part × α)} (hx : LeavesFit k x)
    (h : ∀ q b, q.Fits k → LeavesFit k (rest (q, b))) : LeavesFit k (x >>= rest) :=
  bind fun (q, b) e => h q b (hx q b e)

end LeavesFit

/-! ### The requests -/

section Requests

variable {k : Option Link} {p : Part}

theorem fits_claimRequest (h : p.Fits k) (f : Frame) : LeavesFit k (claimRequest f p) := by
  refine .bind fun (slot, c) _ => .bind fun _ _ => ?_
  dsimp only
  split
  · exact .error _
  · exact .bind fun _ _ => .bind fun _ _ => .bind fun _ _ => .ok (h.carryOutClaim slot c _ _) _

theorem fits_releaseRequest (h : p.Fits k) (f : Frame) : LeavesFit k (releaseRequest f p) :=
  .bind fun _ _ => .bind fun _ _ => .bind fun _ _ => .bind fun _ _ => .ok ((h.freeClaim _ _).renewLeases _ _) _

theorem fits_terminalControlRequest {action : Part → Nat → Part} (ha : ∀ n, (action p n).Fits k) (f : Frame) :
    LeavesFit k (terminalControlRequest action f p) :=
  .bind fun _ _ => .bind fun _ _ => .ok (ha _) _

theorem fits_calibrateRequest (h : p.Fits k) (f : Frame) : LeavesFit k (calibrateRequest f p) :=
  .bind fun _ _ => .ok ((h.setCalibration _).arm _ _) _

theorem fits_distributeFixed (h : p.Fits k) (slot : Nat) (c d : Check) : LeavesFit k (p.distributeFixed slot c d) := by
  unfold Part.distributeFixed
  dsimp only
  split
  · exact .ok (h.setCheck _ _) _
  · split
    · exact .error _
    · split
      · exact .error _
      · exact .ok (((h.setCheck _ _).shareChanged _ _ _ _).evaluate _) _

theorem fits_distributePlan (h : p.Fits k) (slot : Nat) (c d : Check) : LeavesFit k (p.distributePlan slot c d) :=
  .bind fun _ _ => .ok ((h.setCheck _ _).shareChanged _ _ _ _) _

theorem fits_takeChange (h : p.Fits k) (slot : Nat) (c : Check) (lines : List Line) (covers : Nat) :
    LeavesFit k (p.takeChange slot c lines covers) := by
  refine .bind fun _ _ => .bind fun _ _ => ?_
  split
  · exact fits_distributeFixed h _ _ _
  · exact fits_distributePlan h _ _ _

theorem fits_setPlanRequest (h : p.Fits k) (f : Frame) : LeavesFit k (setPlanRequest f p) :=
  .bind fun _ _ => .bind fun _ _ => .bind fun _ _ => .bind fun _ _ => .bind fun _ _ => .bind fun _ _ => .bind fun _ _ =>
    .ok ((h.setCheck _ _).renewLeases _ _) _

theorem fits_assignLineRequest (h : p.Fits k) (f : Frame) : LeavesFit k (assignLineRequest f p) :=
  .bind fun _ _ => .bind fun _ _ => .bind fun _ _ => .bind fun _ _ => .bind fun _ _ => .bind fun _ _ => .bind fun _ _ =>
    .bind fun _ _ => .bind fun _ _ => .ok ((h.setCheck _ _).renewLeases _ _) _

theorem fits_viewShareRequest (h : p.Fits k) (f : Frame) : LeavesFit k (viewShareRequest f p) :=
  .bind fun _ _ => .bind fun _ _ => .bind fun _ _ => .ok (h.renewLeases _ _) _

theorem fits_openCheckRequest (h : p.Fits k) (f : Frame) : LeavesFit k (openCheckRequest f p) :=
  .bind fun _ _ => .bind fun _ _ => .bind fun _ _ => .ok (h.setCheck _ _) _

theorem fits_addLineRequest (h : p.Fits k) (f : Frame) : LeavesFit k (addLineRequest f p) :=
  .bind fun _ _ => .bind fun _ _ => .bind fun _ _ => .bind fun _ _ => .bind fun _ _ => .bind fun _ _ =>
    .bind_part (fits_takeChange h _ _ _ _) fun _ _ hq => .ok hq _

theorem fits_voidLineRequest (h : p.Fits k) (f : Frame) : LeavesFit k (voidLineRequest f p) := by
  refine .bind fun _ _ => .bind fun _ _ => .bind fun _ _ => ?_
  split
  · exact .ok h _
  · exact .bind fun _ _ => .bind_part (fits_takeChange h _ _ _ _) fun _ _ hq => .ok hq _

theorem fits_setCoversRequest (h : p.Fits k) (f : Frame) : LeavesFit k (setCoversRequest f p) :=
  .bind fun _ _ => .bind fun _ _ => .bind fun _ _ => .bind_part (fits_takeChange h _ _ _ _) fun _ _ hq => .ok hq _

theorem fits_moveCheckRequest (h : p.Fits k) (f : Frame) : LeavesFit k (moveCheckRequest f p) :=
  .bind fun _ _ => .bind fun _ _ => .ok (h.setCheck _ _) _

theorem fits_presentRequest (h : p.Fits k) (f : Frame) : LeavesFit k (presentRequest f p) :=
  .bind fun _ _ => .bind fun _ _ => .ok ((h.setCheck _ _).renewLeases _ _) _

theorem fits_closeCheckRequest (h : p.Fits k) (f : Frame) : LeavesFit k (closeCheckRequest f p) :=
  .bind fun _ _ => .bind fun _ _ => .ok (h.freeSlot _ _ _) _

theorem fits_discardCheckRequest (h : p.Fits k) (f : Frame) : LeavesFit k (discardCheckRequest f p) :=
  .bind fun _ _ => .bind fun _ _ => .bind fun _ _ => .ok (h.freeSlot _ _ _) _

theorem fits_readSummaryRequest (h : p.Fits k) (f : Frame) : LeavesFit k (readSummaryRequest f p) :=
  .bind fun _ _ => .ok h _

theorem fits_readLinesRequest (h : p.Fits k) (f : Frame) : LeavesFit k (readLinesRequest f p) :=
  .bind fun _ _ => .ok h _

theorem fits_readSharesRequest (h : p.Fits k) (f : Frame) : LeavesFit k (readSharesRequest f p) :=
  .bind fun _ _ => .ok h _

theorem fits_readTendersRequest (h : p.Fits k) (f : Frame) : LeavesFit k (readTendersRequest f p) :=
  .bind fun _ _ => .ok h _

theorem fits_lookupRequest (h : p.Fits k) (f : Frame) : LeavesFit k (lookupRequest f p) :=
  .bind fun _ _ => .ok (h.renewLeases _ _) _

theorem fits_lookupByTableRequest (h : p.Fits k) (f : Frame) : LeavesFit k (lookupByTableRequest f p) :=
  .bind fun _ _ => .bind fun _ _ => .ok h _

theorem fits_payCardRequest (h : p.Fits k) (f : Frame) : LeavesFit k (payCardRequest f p) := by
  refine .bind fun _ _ => .bind fun _ _ => .bind fun _ _ => .bind fun _ _ => .bind fun _ _ => .bind fun _ _ =>
    .bind fun _ _ => ?_
  split
  · exact .ok (h.payOffline _ _ _ _) _
  · exact .bind fun _ _ => .ok (h.payOnline _ _ _ _) _

theorem fits_payCashRequest (h : p.Fits k) (f : Frame) : LeavesFit k (payCashRequest f p) :=
  .bind fun _ _ => .bind fun _ _ => .bind fun _ _ => .ok (((h.setCheck _ _).accept _ _ _).renewLeases _ _) _

theorem fits_voidTenderRequest (h : p.Fits k) (f : Frame) : LeavesFit k (voidTenderRequest f p) :=
  .bind fun _ _ => .bind fun _ _ => .bind fun _ _ => .bind fun _ _ => .bind fun _ _ => .bind fun _ _ => .bind fun _ _ =>
    .ok (((((h.setCheck _ _).voidOutside _ _ _).evaluate _).shareChanged _ _ _ _).renewLeases _ _) _

theorem fits_tenderStatusFlightRequest (h : p.Fits k) (f : Frame) : LeavesFit k (tenderStatusFlightRequest f p) := by
  unfold tenderStatusFlightRequest
  dsimp only
  split
  · exact .ok h _
  · exact .ok h _

theorem fits_tenderStatusRequest (h : p.Fits k) (f : Frame) : LeavesFit k (tenderStatusRequest f p) :=
  .bind fun _ _ => .bind fun _ _ => .ok (h.renewLeases _ _) _

theorem fits_resolveAcceptRequest (h : p.Fits k) (f : Frame) : LeavesFit k (resolveAcceptRequest f p) :=
  .bind fun _ _ => .bind fun _ _ => .ok ((h.setTenderState _ _ _).accept _ _ _) _

theorem fits_resolveReverseRequest (h : p.Fits k) (f : Frame) : LeavesFit k (resolveReverseRequest f p) :=
  .bind fun _ _ => .ok (h.setTenderState _ _ _) _

theorem fits_restartRequest (h : p.Fits k) (f : Frame) : LeavesFit k (restartRequest f p) :=
  .ok (h.setControl _).enterSaving _

theorem fits_statusRequest (h : p.Fits k) (f : Frame) : LeavesFit k (statusRequest f p) := .ok h.clearCounters _

theorem fits_readExceptionsRequest (h : p.Fits k) (f : Frame) : LeavesFit k (readExceptionsRequest f p) := by
  refine .bind fun _ _ => .ok ?_ _
  obtain ⟨links, kept, list, lost, heard, stale, exceptions, exceptionsLost, rest⟩ := h
  refine ⟨links, kept, list, lost, heard, stale, exceptions, ?_, rest⟩
  dsimp only
  split
  · exact Nat.zero_le _
  · exact exceptionsLost

/-- Clearing an exception makes the list no longer (R167). -/
theorem length_removeException_le (number : Nat) (es : List ExceptionEntry) :
    (removeException number es).length ≤ es.length := by
  induction es with
  | nil => exact Nat.le_refl _
  | cons e rest ih =>
    unfold removeException
    split
    · simp
    · simpa using ih

theorem fits_clearExceptionRequest (h : p.Fits k) (f : Frame) : LeavesFit k (clearExceptionRequest f p) := by
  refine .bind fun _ _ => .ok ?_ _
  obtain ⟨links, kept, list, lost, heard, stale, exceptions, rest⟩ := h
  exact ⟨links, kept, list, lost, heard, stale, Nat.le_trans (length_removeException_le _ _) exceptions, rest⟩

theorem fits_configBeginRequest (h : p.Fits k) (f : Frame) : LeavesFit k (configBeginRequest f p) :=
  .bind fun _ _ => .bind fun _ _ => .ok (h.setControl _) _

theorem fits_configRecordRequest (h : p.Fits k) (f : Frame) : LeavesFit k (configRecordRequest f p) :=
  .bind fun _ _ => .bind fun _ _ => .bind fun _ _ => .bind fun _ _ => .bind fun _ _ => .ok (h.setControl _) _

theorem fits_configEndRequest (h : p.Fits k) (f : Frame) : LeavesFit k (configEndRequest f p) :=
  .bind fun _ _ => .bind fun _ _ => .bind fun _ _ => .bind fun _ _ => .ok (h.configure _ _) _

end Requests

/-! ### Requests and gateway frames from taking to end (R4, R6) -/

theorem fits_lengthThen {k : Option Link} {lengthOk : Bool} {handler : Handled} (h : LeavesFit k handler) :
    LeavesFit k (lengthThen lengthOk handler) := by
  unfold lengthThen
  split
  · exact h
  · exact .error _

/-- The part that the Roster's steps leave, whatever they make of the frame. -/
def RosterOutcome.part : RosterOutcome → Part
  | .discarded p | .refused _ p | .passed p => p

namespace Part.Fits

variable {k : Option Link} {p : Part}

/-- Whatever a request comes to, no place stays kept once it is concluded (R6). -/
theorem conclude (h : p.Fits k) (l : Link) (f : Frame) {r : Handled} (hr : LeavesFit k r) : (p.conclude l f r).Fits none := by
  unfold Part.conclude
  split
  · exact h.reply _ _
  · exact (hr _ _ rfl).reply _ _
  · exact (hr _ _ rfl).releasePlace

theorem letPass (h : p.Fits k) (t : Tl) (f : Frame) : (p.letPass t f).part.Fits k := by
  have heard := h.hear t f
  unfold Part.letPass
  dsimp only
  split
  · exact heard.setRosterState _ _
  · exact heard
  · exact heard
  · exact heard

theorem secondIdentity (h : p.Fits k) (t : Tl) (f : Frame) (previous : Tl) : (p.secondIdentity t f previous).part.Fits k := by
  have heard := h.hear t f
  unfold Part.secondIdentity
  dsimp only
  split
  · exact ((heard.setRosterState _ _).loseActive _ _).notice _ _
  · exact ((heard.setRosterState _ _).loseActive _ _).notice _ _
  · exact heard
  · exact heard

theorem rosterStep (h : p.Fits k) (t : Tl) (f : Frame) : (p.rosterStep t f).part.Fits k := by
  unfold Part.rosterStep
  split
  · exact h
  · split
    · exact h.letPass t f
    · split
      · split
        · obtain ⟨links, kept, list, lost, heard, rest⟩ := h
          exact ⟨links, kept, list, lost, saturate_le heard, rest⟩
        · exact h.secondIdentity t f _
      · exact h.letPass t f

theorem handleTerminal (h : p.Fits k) (t : Tl) (f : Frame) (lengthOk : Bool) {handler : Frame → Part → Handled}
    (hh : ∀ q, q.Fits k → LeavesFit k (handler f q)) : (p.handleTerminal t f lengthOk handler).Fits none := by
  have step := h.rosterStep t f
  unfold Part.handleTerminal
  split
  · exact h.conclude _ _ (.error _)
  · split
    · next e =>
      rw [e] at step
      exact step.releasePlace
    · next e =>
      rw [e] at step
      exact step.conclude _ _ (.error _)
    · next e =>
      rw [e] at step
      exact step.conclude _ _ (fits_lengthThen (hh _ step))

theorem handleOrder (h : p.Fits k) (f : Frame) (excepted lengthOk : Bool) {handler : Frame → Part → Handled}
    (hh : LeavesFit k (handler f p)) : (p.handleOrder f excepted lengthOk handler).Fits none := by
  refine h.conclude _ _ ?_
  split
  · exact .error _
  · split
    · exact .error _
    · exact fits_lengthThen hh

/-- A request from a terminal link keeps the bounds when its handler does. -/
theorem serveTerminal (h : p.Fits none) (t : Tl) (handles lengthOk : Frame → Bool) {handler : Frame → Part → Handled}
    (hh : ∀ (k : Option Link) (f : Frame) (q : Part), q.Fits k → LeavesFit k (handler f q)) :
    (p.serveTerminal t handles lengthOk handler).Fits none := by
  unfold Part.serveTerminal
  split
  · split
    · exact (h.taken _).handleTerminal _ _ _ fun q hq => hh _ _ q hq
    · exact h
  · exact h

/-- A request from OL keeps the bounds when its handler does. -/
theorem serveOrder (h : p.Fits none) (handles : Frame → Bool) (excepted : Bool) (lengthOk : Frame → Bool)
    {handler : Frame → Part → Handled} (hh : ∀ (k : Option Link) (f : Frame) (q : Part), q.Fits k → LeavesFit k (handler f q)) :
    (p.serveOrder handles excepted lengthOk handler).Fits none := by
  unfold Part.serveOrder
  split
  · split
    · exact (h.taken _).handleOrder _ _ _ (hh _ _ _ (h.taken _))
    · exact h
  · exact h

theorem takeAnswer (h : p.Fits k) (f : Frame) {handler : Frame → Part → Part}
    (hh : ∀ q : Part, q.Fits k → (handler f q).Fits k) : (p.takeAnswer f handler).Fits k := by
  unfold Part.takeAnswer
  split
  · exact h.countFraming _
  · split
    · exact h
    · split
      · exact hh _ h.alHeard
      · exact h.countFraming _

/-- A gateway frame keeps the bounds when its handler does. -/
theorem serveAnswer (h : p.Fits k) (handles : Frame → Bool) {handler : Frame → Part → Part}
    (hh : ∀ (f : Frame) (q : Part), q.Fits k → (handler f q).Fits k) :
    (p.serveGateway handles fun f q => q.takeAnswer f handler).Fits k := by
  unfold Part.serveGateway
  split
  · split
    · exact (h.dropHead _).takeAnswer _ (hh _)
    · exact h
  · exact h

theorem refuseKind (h : p.Fits none) (l : Link) (f : Frame) : (p.refuseKind l f).Fits none := by
  unfold Part.refuseKind
  split
  · exact (h.dropHead _).countFraming _
  · exact (h.taken _).conclude _ _ (.error _)

theorem takeUnaccepted (h : p.Fits none) (l : Link) : (p.takeUnaccepted l).Fits none := by
  unfold Part.takeUnaccepted
  split
  · split
    · exact h
    · exact h.refuseKind _ _
  · exact h

end Part.Fits

/-! ### Every command, and every step -/

/-- Every command leaves a part that keeps the bounds. -/
theorem exec_keeps_fits (c : Instr) {s : State} (h : s.toPart.Fits none) :
    ∃ p : Part, exec c s = .next (s.become p) ∧ p.Fits none := by
  cases c with
  | resetNLow => exact ⟨_, rfl, .reset _⟩
  | resetNRelease straps => exact ⟨_, rfl, h.release straps⟩
  | internalReset straps => exact ⟨_, rfl, h.internalReset straps⟩
  | enterHalted => exact ⟨_, rfl, h.enterHalted⟩
  | pfailAsserted level => exact ⟨_, rfl, h.pfailLevel level⟩
  | serviceClockTick => exact ⟨_, rfl, h.clockTick⟩
  | wholeSecond => exact ⟨_, rfl, h.wholeSecond⟩
  | refppsEdge => exact ⟨_, rfl, h.refppsEdge⟩
  | frameComplete l b => exact ⟨_, rfl, h.frameComplete l b⟩
  | interByteTimeout l => exact ⟨_, rfl, h.interByteTimeout l⟩
  | frameTransmitted l => exact ⟨_, rfl, h.frameTransmitted l⟩
  | heldReplyMove t => exact ⟨_, rfl, h.heldReplyMove t⟩
  | noticeMove => exact ⟨_, rfl, h.noticeMove⟩
  | arbiterGrant => exact ⟨_, rfl, h.arbiterGrant⟩
  | unacceptedKindFrame l => exact ⟨_, rfl, h.takeUnaccepted l⟩
  | lookup t => exact ⟨_, rfl, h.serveTerminal t _ _ fun _ f _ hq => fits_lookupRequest hq f⟩
  | lookupByTable t => exact ⟨_, rfl, h.serveTerminal t _ _ fun _ f _ hq => fits_lookupByTableRequest hq f⟩
  | claim t => exact ⟨_, rfl, h.serveTerminal t _ _ fun _ f _ hq => fits_claimRequest hq f⟩
  | release t => exact ⟨_, rfl, h.serveTerminal t _ _ fun _ f _ hq => fits_releaseRequest hq f⟩
  | present l =>
    match l with
    | .tl t => exact ⟨_, rfl, h.serveTerminal t _ _ fun _ f _ hq => fits_presentRequest hq f⟩
    | .ol => exact ⟨_, rfl, h.serveOrder _ _ _ fun _ f _ hq => fits_presentRequest hq f⟩
    | .al => exact ⟨_, rfl, h⟩
  | viewShare t => exact ⟨_, rfl, h.serveTerminal t _ _ fun _ f _ hq => fits_viewShareRequest hq f⟩
  | setPlan t => exact ⟨_, rfl, h.serveTerminal t _ _ fun _ f _ hq => fits_setPlanRequest hq f⟩
  | assignLine t => exact ⟨_, rfl, h.serveTerminal t _ _ fun _ f _ hq => fits_assignLineRequest hq f⟩
  | payCard t => exact ⟨_, rfl, h.serveTerminal t _ _ fun _ f _ hq => fits_payCardRequest hq f⟩
  | payCash t => exact ⟨_, rfl, h.serveTerminal t _ _ fun _ f _ hq => fits_payCashRequest hq f⟩
  | voidTender t => exact ⟨_, rfl, h.serveTerminal t _ _ fun _ f _ hq => fits_voidTenderRequest hq f⟩
  | tenderStatus t => exact ⟨_, rfl, h.serveTerminal t _ _ fun _ f _ hq => fits_tenderStatusRequest hq f⟩
  | tenderStatusFlight t => exact ⟨_, rfl, h.serveTerminal t _ _ fun _ f _ hq => fits_tenderStatusFlightRequest hq f⟩
  | openCheck => exact ⟨_, rfl, h.serveOrder _ _ _ fun _ f _ hq => fits_openCheckRequest hq f⟩
  | addLine => exact ⟨_, rfl, h.serveOrder _ _ _ fun _ f _ hq => fits_addLineRequest hq f⟩
  | voidLine => exact ⟨_, rfl, h.serveOrder _ _ _ fun _ f _ hq => fits_voidLineRequest hq f⟩
  | setCovers => exact ⟨_, rfl, h.serveOrder _ _ _ fun _ f _ hq => fits_setCoversRequest hq f⟩
  | moveCheck => exact ⟨_, rfl, h.serveOrder _ _ _ fun _ f _ hq => fits_moveCheckRequest hq f⟩
  | closeCheck => exact ⟨_, rfl, h.serveOrder _ _ _ fun _ f _ hq => fits_closeCheckRequest hq f⟩
  | discardCheck => exact ⟨_, rfl, h.serveOrder _ _ _ fun _ f _ hq => fits_discardCheckRequest hq f⟩
  | readCheckSummary => exact ⟨_, rfl, h.serveOrder _ _ _ fun _ f _ hq => fits_readSummaryRequest hq f⟩
  | readCheckLines => exact ⟨_, rfl, h.serveOrder _ _ _ fun _ f _ hq => fits_readLinesRequest hq f⟩
  | readCheckShares => exact ⟨_, rfl, h.serveOrder _ _ _ fun _ f _ hq => fits_readSharesRequest hq f⟩
  | readCheckTenders => exact ⟨_, rfl, h.serveOrder _ _ _ fun _ f _ hq => fits_readTendersRequest hq f⟩
  | resolveTenderAccept => exact ⟨_, rfl, h.serveOrder _ _ _ fun _ f _ hq => fits_resolveAcceptRequest hq f⟩
  | resolveTenderReverse => exact ⟨_, rfl, h.serveOrder _ _ _ fun _ f _ hq => fits_resolveReverseRequest hq f⟩
  | terminalControlReset =>
    exact ⟨_, rfl, h.serveOrder _ _ _ fun _ f _ hq => fits_terminalControlRequest hq.controlReset f⟩
  | terminalControlBar => exact ⟨_, rfl, h.serveOrder _ _ _ fun _ f _ hq => fits_terminalControlRequest hq.controlBar f⟩
  | terminalControlUnbar =>
    exact ⟨_, rfl, h.serveOrder _ _ _ fun _ f _ hq => fits_terminalControlRequest hq.controlUnbar f⟩
  | readExceptions => exact ⟨_, rfl, h.serveOrder _ _ _ fun _ f _ hq => fits_readExceptionsRequest hq f⟩
  | clearException => exact ⟨_, rfl, h.serveOrder _ _ _ fun _ f _ hq => fits_clearExceptionRequest hq f⟩
  | status => exact ⟨_, rfl, h.serveOrder _ _ _ fun _ f _ hq => fits_statusRequest hq f⟩
  | calibrate => exact ⟨_, rfl, h.serveOrder _ _ _ fun _ f _ hq => fits_calibrateRequest hq f⟩
  | restart => exact ⟨_, rfl, h.serveOrder _ _ _ fun _ f _ hq => fits_restartRequest hq f⟩
  | configBegin => exact ⟨_, rfl, h.serveOrder _ _ _ fun _ f _ hq => fits_configBeginRequest hq f⟩
  | configRecord => exact ⟨_, rfl, h.serveOrder _ _ _ fun _ f _ hq => fits_configRecordRequest hq f⟩
  | configEnd => exact ⟨_, rfl, h.serveOrder _ _ _ fun _ f _ hq => fits_configEndRequest hq f⟩
  | authReply => exact ⟨_, rfl, h.serveAnswer _ fun f _ hq => hq.authReply f⟩
  | reversalReply => exact ⟨_, rfl, h.serveAnswer _ fun f _ hq => hq.reversalReply f⟩
  | submitReply => exact ⟨_, rfl, h.serveAnswer _ fun f _ hq => hq.submitReply f⟩
  | gatewayError => exact ⟨_, rfl, h.serveAnswer _ fun f _ hq => hq.gatewayError f⟩
  | linkAlive => exact ⟨_, rfl, h.serveAnswer _ fun _ _ hq => hq⟩
  | claimLeaseExpiry => exact ⟨_, rfl, h.claimLeaseExpiry⟩
  | liveTimeout => exact ⟨_, rfl, h.liveTimeout⟩
  | watchExpiry => exact ⟨_, rfl, h.watchExpiry⟩
  | drainTimeout => exact ⟨_, rfl, h.drainTimeout⟩
  | reversalExpiry => exact ⟨_, rfl, h.reversalExpiry⟩
  | alAliveExpiry => exact ⟨_, rfl, h.alAliveExpiry⟩
  | alSettleExpiry => exact ⟨_, rfl, h.alSettleExpiry⟩
  | calGuardExpiry => exact ⟨_, rfl, h.calGuardExpiry⟩
  | memoryTransferEnd error => exact ⟨_, rfl, h.transferEnd error⟩
  | operationLimit => exact ⟨_, rfl, h.transferLimit⟩
  | saveImageSnapshot => exact ⟨_, rfl, h.takeSnapshot⟩
  | byteReceived l b => exact ⟨_, rfl, h.byteReceived l b⟩
  | stopBitError l => exact ⟨_, rfl, h.stopBitError l⟩
  | rdyInAsserted l level => exact ⟨_, rfl, h.rdyIn l level⟩

/-- A step carries out the command at the front, or passes one system clock: either keeps the bounds. -/
theorem step_keeps_fits {s t : State} (h : s.toPart.Fits none) (e : step s = .next t) : t.toPart.Fits none := by
  unfold step at e
  split at e
  · next c rest _ =>
    obtain ⟨p, ran, fits⟩ := exec_keeps_fits c (s := { s with pending := rest }) h
    rw [ran] at e
    cases e
    exact fits
  · cases e
    exact h.systemClock

/-- Settles O6: the bounds as `Part.Fits` says them hold before the step, and every step keeps them. -/
theorem everyStepKeepsTheBounds : Obligations.EveryStepKeepsTheBounds := by
  intro s t bounded e
  rw [Part.bounded_iff_fits] at bounded ⊢
  exact step_keeps_fits bounded e

end Sys2Proof.Machine
end

section
/-! PROOFS. Receivers, transmitters and output lines of the links (01): what a byte does by the receiver's state, what completes a
frame, and the round trip of every frame (O16 to O20). -/

namespace Sys2Proof.Machine

/-! ### Numbers as bytes (00, "Byte order") -/

@[simp] theorem length_leBytes (width n : Nat) : (leBytes width n).length = width := by
  induction width generalizing n with
  | zero => rfl
  | succ width ih => simp [leBytes, ih]

/-- Reading back a number from its low bytes gives what those bytes can hold of it. -/
theorem leValue_leBytes (width n : Nat) : leValue (leBytes width n) = n % 256 ^ width := by
  induction width generalizing n with
  | zero => simp [leBytes, leValue, Nat.mod_one]
  | succ width ih =>
    rw [leBytes, leValue, ih, BitVec.toNat_ofNat, show 256 ^ (width + 1) = 256 * 256 ^ width from Nat.pow_succ', Nat.mod_mul]

theorem leValue_leBytes_of_lt {width n : Nat} (h : n < 256 ^ width) : leValue (leBytes width n) = n := by
  rw [leValue_leBytes, Nat.mod_eq_of_lt h]

/-- A field that stands behind `offset` bytes. -/
theorem fieldAt_append {front field back : List Byte} {offset width : Nat} (ho : front.length = offset)
    (hw : field.length = width) : fieldAt (front ++ field ++ back) offset width = leValue field := by
  subst ho hw
  simp [fieldAt]

/-! ### The receiver, byte by byte (R2) -/

namespace LinkState

variable {x : LinkState}

theorem completing_hunt {counted : Bool} (h : x.receiver = .hunt counted) : x.completing = none := by
  simp [completing, h]

theorem completing_header {low : Option Byte} {last : Time} (h : x.receiver = .header low last) : x.completing = none := by
  simp [completing, h]

theorem completing_body_short {length : Nat} {got : List Byte} {last : Time} (h : x.receiver = .body length got last)
    (short : got.length + 1 < length) : x.completing = none := by
  simp [completing, h, Nat.ne_of_lt short]

theorem completing_body_full {length : Nat} {got : List Byte} {last : Time} (h : x.receiver = .body length got last)
    (full : got.length + 1 = length) : x.completing = some (length, got) := by
  simp [completing, h, full]

theorem receive_hunt_sync {counted : Bool} (h : x.receiver = .hunt counted) (now : Time) :
    x.receive now 0xA5 = { x with receiver := .header none now } := by
  simp [receive, h, syncByte]

theorem receive_hunt_first (h : x.receiver = .hunt false) (now : Time) {b : Byte} (ne : b ≠ 0xA5) :
    x.receive now b = { x with receiver := .hunt true, framingErrors := saturate 65535 x.framingErrors } := by
  simp only [receive, h]
  exact if_neg ne

theorem receive_hunt_counted (h : x.receiver = .hunt true) (now : Time) {b : Byte} (ne : b ≠ 0xA5) : x.receive now b = x := by
  simp only [receive, h]
  exact if_neg ne

theorem receive_header_first {last : Time} (h : x.receiver = .header none last) (now : Time) (b : Byte) :
    x.receive now b = { x with receiver := .header (some b) now } := by
  simp [receive, h]

/-- The second byte of the length field opens the body when the length is one of a frame (01, "Frame format"). -/
theorem receive_header_second {low b : Byte} {last : Time} (h : x.receiver = .header (some low) last) (now : Time)
    (inRange : within 6 297 (low.toNat + 256 * b.toNat) = true) :
    x.receive now b = { x with receiver := .body (low.toNat + 256 * b.toNat) [] now } := by
  simp [receive, h, leValue, lengthMin, lengthMax, inRange]

theorem receive_header_badLength {low b : Byte} {last : Time} (h : x.receiver = .header (some low) last) (now : Time)
    (outside : within 6 297 (low.toNat + 256 * b.toNat) = false) :
    x.receive now b = { x with receiver := .hunt false, framingErrors := saturate 65535 x.framingErrors } := by
  simp [receive, h, leValue, lengthMin, lengthMax, outside, countFraming, hunt, Config.counterMax]

theorem receive_body {length : Nat} {got : List Byte} {last : Time} (h : x.receiver = .body length got last) (now : Time)
    (b : Byte) : x.receive now b = { x with receiver := .body length (got ++ [b]) now } := by
  simp [receive, h]

/-! ### A completed frame (R3, R5) -/

theorem offer_room (f : Frame) (room : x.inbound.length < 8) : x.offer f = { x with inbound := x.inbound ++ [f] } := by
  simp [offer, Config.inboundPlaces, room]

theorem offer_full (f : Frame) (full : 8 ≤ x.inbound.length) :
    x.offer f = { x with overruns := saturate 65535 x.overruns } := by
  simp [offer, Config.inboundPlaces, Config.counterMax, Nat.not_lt.mpr full]

theorem complete_frame {length : Nat} {got : List Byte} {f : Frame} (h : frameOf length got = some f)
    (room : x.inbound.length < 8) :
    x.complete length got = { x with receiver := .hunt false, inbound := x.inbound ++ [f] } := by
  simp only [complete, h]
  exact offer_room (x := x.hunt) f room

theorem complete_overrun {length : Nat} {got : List Byte} {f : Frame} (h : frameOf length got = some f)
    (full : 8 ≤ x.inbound.length) :
    x.complete length got = { x with receiver := .hunt false, overruns := saturate 65535 x.overruns } := by
  simp only [complete, h]
  exact offer_full (x := x.hunt) f full

theorem complete_crcError {length : Nat} {got : List Byte} (h : frameOf length got = none) :
    x.complete length got = { x with receiver := .hunt false, crcErrors := saturate 65535 x.crcErrors } := by
  simp only [complete, h]
  rfl

/-- What a completed frame leaves does not depend on the receiver that assembled it. -/
theorem complete_setReceiver (r : Receiver) (length : Nat) (got : List Byte) :
    ({ x with receiver := r } : LinkState).complete length got = x.complete length got := rfl

end LinkState

/-- Bytes whose check value agrees spell a frame (R3). -/
theorem frameOf_agrees {length : Nat} {got : List Byte}
    (agrees : fieldAt got (length - 2) 2 = (crc16 (leBytes 2 length ++ got.take (length - 2))).toNat) :
    frameOf length got = some {
      kind := got.getD 0 0, tag := got.getD 1 0, terminal := BitVec.ofNat 16 (fieldAt got 2 2)
      body := (got.take (length - 2)).drop 4 } := if_pos agrees

theorem frameOf_disagrees {length : Nat} {got : List Byte}
    (disagrees : fieldAt got (length - 2) 2 ≠ (crc16 (leBytes 2 length ++ got.take (length - 2))).toNat) :
    frameOf length got = none := if_neg disagrees

/-! ### The receivers' commands -/

variable {s : State} {l : Link}

theorem exec_byteReceived (b : Byte) (running : s.control.startup.running = true) (h : (s.link l).completing = none) :
    exec (.byteReceived l b) s = .next (s.become (s.setLink l ((s.link l).receive s.now b))) := by
  have received : s.toPart.byteReceived l b = s.setLink l ((s.link l).receive s.now b) := by
    simp [Part.byteReceived, running, h]
  rw [← received]
  rfl

theorem exec_frameComplete {length : Nat} {got : List Byte} {last : Time} (b : Byte)
    (running : s.control.startup.running = true) (h : (s.link l).receiver = .body length got last)
    (full : got.length + 1 = length) :
    exec (.frameComplete l b) s = .next (s.become (s.setLink l ((s.link l).complete length (got ++ [b])))) := by
  have completed : s.toPart.frameComplete l b = s.setLink l ((s.link l).complete length (got ++ [b])) := by
    simp [Part.frameComplete, running, LinkState.completing_body_full h full]
  rw [← completed]
  rfl

theorem exec_stopBitError (running : s.control.startup.running = true) :
    exec (.stopBitError l) s = .next (s.become (s.setLink l (s.link l).countFraming.hunt)) := by
  have dropped : s.toPart.stopBitError l = s.setLink l (s.link l).countFraming.hunt := if_pos running
  rw [← dropped]
  rfl

theorem exec_interByteTimeout_due {last : Time} (running : s.control.startup.running = true)
    (h : (s.link l).lastByte = some last) (due : 20 ≤ (s.now - last).toNat) :
    exec (.interByteTimeout l) s = .next (s.become (s.setLink l (s.link l).countFraming.hunt)) := by
  have dropped : s.toPart.interByteTimeout l = s.setLink l (s.link l).countFraming.hunt := by
    simp only [Part.interByteTimeout, h]
    exact if_pos ⟨running, due⟩
  rw [← dropped]
  rfl

theorem exec_interByteTimeout_early {last : Time} (h : (s.link l).lastByte = some last)
    (early : (s.now - last).toNat < 20) : exec (.interByteTimeout l) s = .next s := by
  have same : s.toPart.interByteTimeout l = s.toPart := by
    simp only [Part.interByteTimeout, h]
    exact if_neg fun due => Nat.not_le.mpr early due.2
  calc exec (.interByteTimeout l) s = .next (s.become (s.toPart.interByteTimeout l)) := rfl
    _ = .next s := by rw [same]; rfl

/-- Settles O17, by the receiver's state. -/
theorem receiverTakesBytesAndDropsBrokenFrames : Obligations.ReceiverTakesBytesAndDropsBrokenFrames := by
  refine ⟨fun s l b running => ?_, fun s l running => ?_, fun l => ?_⟩
  · refine ⟨fun counted h sync => ?_, fun h ne => ?_, fun h ne => ?_, fun last h => ?_, fun low last h inRange => ?_,
      fun low last h outside => ?_, fun length got last h short => ?_⟩
    · rw [exec_byteReceived b running (LinkState.completing_hunt h), sync, LinkState.receive_hunt_sync h]
    · rw [exec_byteReceived b running (LinkState.completing_hunt h), LinkState.receive_hunt_first h _ ne]
    · rw [exec_byteReceived b running (LinkState.completing_hunt h), LinkState.receive_hunt_counted h _ ne]
    · rw [exec_byteReceived b running (LinkState.completing_header h), LinkState.receive_header_first h]
    · rw [exec_byteReceived b running (LinkState.completing_header h), LinkState.receive_header_second h _ inRange]
    · rw [exec_byteReceived b running (LinkState.completing_header h), LinkState.receive_header_badLength h _ outside]
    · rw [exec_byteReceived b running (LinkState.completing_body_short h short), LinkState.receive_body h]
  · exact ⟨exec_stopBitError running, fun last h due => exec_interByteTimeout_due running h due,
      fun last h early => exec_interByteTimeout_early h early⟩
  · match l with
    | .tl .tl0 | .tl .tl1 | .tl .tl2 | .tl .tl3 | .ol | .al => rfl

/-- Settles O18: the check value and the queue's place decide what a completed frame leaves. -/
theorem receiverCompletesAFrame : Obligations.ReceiverCompletesAFrame := by
  intro s l b length got last running h full
  refine ⟨fun disagrees => ?_, fun agrees room => ?_, fun agrees queueFull => ?_⟩
  · rw [exec_frameComplete b running h full, LinkState.complete_crcError (frameOf_disagrees disagrees)]
  · rw [exec_frameComplete b running h full, LinkState.complete_frame (frameOf_agrees agrees) room]
  · rw [exec_frameComplete b running h full, LinkState.complete_overrun (frameOf_agrees agrees) queueFull]

/-! ### The round trip (01, "Frame format"; R2, R3, R5) -/

theorem carryOut_cons {c : Instr} {s t : State} (rest : List Instr) (h : exec c s = .next t) :
    carryOut (c :: rest) s = carryOut rest t := by
  rw [carryOut, h]

theorem arrivals_cons_cons (l : Link) (b b' : Byte) (rest : List Byte) :
    arrivals l (b :: b' :: rest) = .byteReceived l b :: arrivals l (b' :: rest) := rfl

/-- The state in which link `l`'s receiver alone has changed. -/
def State.withReceiver (s : State) (l : Link) (r : Receiver) : State := s.become (s.setLink l { s.link l with receiver := r })

theorem State.link_withReceiver (s : State) (l : Link) (r : Receiver) :
    (s.withReceiver l r).link l = { s.link l with receiver := r } := Part.link_setLink_same _ _ _

theorem State.withReceiver_withReceiver (s : State) (l : Link) (r r' : Receiver) :
    (s.withReceiver l r).withReceiver l r' = s.withReceiver l r' := by
  rw [State.withReceiver, State.link_withReceiver]
  simp [State.withReceiver, State.become]

/-- Completing a frame after a change of the receiver is completing it before. -/
theorem State.become_complete_withReceiver (s : State) (l : Link) (r : Receiver) (length : Nat) (got : List Byte) :
    (s.withReceiver l r).become ((s.withReceiver l r).setLink l (((s.withReceiver l r).link l).complete length got))
      = s.become (s.setLink l ((s.link l).complete length got)) := by
  rw [State.link_withReceiver, LinkState.complete_setReceiver]
  simp [State.withReceiver, State.become]

/-- A byte of a frame, but for the last, that moves the receiver alone. -/
theorem carryOut_arrivals_cons {b : Byte} {rest : List Byte} {r : Receiver} (running : s.control.startup.running = true)
    (ne : rest ≠ []) (none : (s.link l).completing = none)
    (moved : (s.link l).receive s.now b = { s.link l with receiver := r }) :
    carryOut (arrivals l (b :: rest)) s = carryOut (arrivals l rest) (s.withReceiver l r) := by
  obtain ⟨b', more, rfl⟩ := List.exists_cons_of_ne_nil ne
  rw [arrivals_cons_cons, carryOut_cons _ (exec_byteReceived b running none), moved]
  rfl

/-- The bytes that a body still lacks, sent one after another, complete the frame that they and the bytes before them spell. -/
theorem carryOut_arrivals_body {rest : List Byte} {length : Nat} {got : List Byte} {last : Time}
    (running : s.control.startup.running = true) (h : (s.link l).receiver = .body length got last) (ne : rest ≠ [])
    (full : got.length + rest.length = length) :
    carryOut (arrivals l rest) s = .next (s.become (s.setLink l ((s.link l).complete length (got ++ rest)))) := by
  induction rest generalizing s got last with
  | nil => exact absurd rfl ne
  | cons b more ih =>
    by_cases last : more = []
    · subst last
      rw [arrivals, carryOut_cons _ (exec_frameComplete b running h full), carryOut]
    · have some : 0 < more.length := List.length_pos_iff.mpr last
      rw [List.length_cons] at full
      have short := LinkState.completing_body_short h (by omega)
      rw [carryOut_arrivals_cons running last short (LinkState.receive_body h _ _),
        ih (by exact running) (by rw [State.link_withReceiver]) last (by simp; omega), State.become_complete_withReceiver,
        List.append_assoc, List.singleton_append]

/-- The bytes of a frame that follow its length field, but for the check value. -/
def Frame.content (f : Frame) : List Byte := [f.kind, f.tag] ++ leBytes 2 f.terminal.toNat ++ f.body

/-- The check value of a frame (01, "Frame format"). -/
def Frame.check (f : Frame) : BitVec 16 := crc16 (leBytes 2 (6 + f.body.length) ++ f.content)

theorem Frame.length_content (f : Frame) : f.content.length = 4 + f.body.length := by
  simp [Frame.content]
  omega

/-- A frame on the wire: the sync byte, the two length bytes, the content, the check value. -/
theorem frameBytes_eq (f : Frame) :
    frameBytes f = 0xA5 :: BitVec.ofNat 8 (6 + f.body.length) :: BitVec.ofNat 8 ((6 + f.body.length) / 256)
      :: (f.content ++ leBytes 2 f.check.toNat) := by
  simp [frameBytes, Frame.content, Frame.check, leBytes]

/-- The content and the check value of a frame spell that frame again (R3). -/
theorem frameOf_content (f : Frame) : frameOf (6 + f.body.length) (f.content ++ leBytes 2 f.check.toNat) = some f := by
  have behind : 6 + f.body.length - 2 = f.content.length := by rw [f.length_content]; omega
  have covered : (f.content ++ leBytes 2 f.check.toNat).take (6 + f.body.length - 2) = f.content := by
    rw [behind, List.take_left']
    rfl
  have check : fieldAt (f.content ++ leBytes 2 f.check.toNat) (6 + f.body.length - 2) 2 = f.check.toNat := by
    have field := fieldAt_append (front := f.content) (back := []) behind.symm (length_leBytes 2 f.check.toNat)
    rw [List.append_nil] at field
    rw [field, leValue_leBytes_of_lt f.check.isLt]
  have terminal : fieldAt (f.content ++ leBytes 2 f.check.toNat) 2 2 = f.terminal.toNat := by
    have field := fieldAt_append (front := [f.kind, f.tag]) (back := f.body ++ leBytes 2 f.check.toNat) rfl
      (length_leBytes 2 f.terminal.toNat)
    rw [leValue_leBytes_of_lt f.terminal.isLt] at field
    simpa [Frame.content] using field
  rw [frameOf_agrees (by rw [covered, check]; rfl), covered, terminal]
  simp [Frame.content, leBytes]

/-- Settles O19: the three bytes before the content take the receiver from HUNT to the body, and the rest completes the frame. -/
theorem sentFramesAreReceivedWhole : Obligations.SentFramesAreReceivedWhole := by
  intro s l f counted running hunting room short
  have field : (BitVec.ofNat 8 (6 + f.body.length)).toNat + 256 * (BitVec.ofNat 8 ((6 + f.body.length) / 256)).toNat
      = 6 + f.body.length := by
    simp only [BitVec.toNat_ofNat]
    omega
  have inRange : within 6 297 (6 + f.body.length) = true := by
    simp [within]
    omega
  have lacks : f.content ++ leBytes 2 f.check.toNat ≠ [] := by simp [Frame.content]
  have length : (f.content ++ leBytes 2 f.check.toNat).length = 6 + f.body.length := by
    simp [f.length_content]
    omega
  rw [frameBytes_eq,
    carryOut_arrivals_cons running (by simp) (LinkState.completing_hunt hunting) (LinkState.receive_hunt_sync hunting _),
    carryOut_arrivals_cons (by exact running) (by simp) (LinkState.completing_header (by rw [State.link_withReceiver]))
      (LinkState.receive_header_first (by rw [State.link_withReceiver]) _ _),
    State.withReceiver_withReceiver,
    carryOut_arrivals_cons (by exact running) lacks (LinkState.completing_header (by rw [State.link_withReceiver]))
      (LinkState.receive_header_second (by rw [State.link_withReceiver]) _ (by rw [field]; exact inRange)),
    State.withReceiver_withReceiver, field,
    carryOut_arrivals_body (by exact running) (by rw [State.link_withReceiver]) lacks (by simpa using length),
    State.become_complete_withReceiver, List.nil_append, LinkState.complete_frame (frameOf_content f) room]

/-! ### The output lines (R1, R12) -/

/-- RDY_OUT by start-up state, as the table of R1 gives it. -/
theorem Part.rdyOut_eq (p : Part) (l : Link) : p.rdyOut l =
    match p.control.startup with
    | .reset | .saving | .halted => false
    | .loading | .scanning | .restoring => decide (l = .ol) && decide ((p.link .ol).inbound.length < 8)
    | .ready => decide ((p.link l).inbound.length < 8) := by
  unfold Part.rdyOut
  cases l with
  | tl t => cases p.control.startup <;> rfl
  | ol => cases p.control.startup <;> rfl
  | al => cases p.control.startup <;> rfl

theorem Part.attn_iff (p : Part) :
    p.attn = true ↔ p.noticeList ≠ [] ∨ ∃ f ∈ (p.link .ol).outbound, f.kind = 0x04 := by
  simp [Part.attn, noticeKind]

/-- Settles O16. -/
theorem outputLinesFollowTheState : Obligations.OutputLinesFollowTheState := by
  refine ⟨Part.rdyOut_eq, fun s l b length got last startup _ h full room agrees => ?_, Part.attn_iff, rfl⟩
  have running : s.control.startup.running = true := by
    obtain e | e | e := startup <;> rw [e] <;> rfl
  exact ⟨_, by rw [exec_frameComplete b running h full, LinkState.complete_frame (frameOf_agrees agrees) room]⟩

/-! ### The transmitter (R10, R15) -/

/-- A frame whose last byte has gone leaves its queue. -/
theorem Part.frameTransmitted_eq {p : Part} {l : Link} {f : Frame} {rest : List Frame}
    (transmits : p.control.startup.transmits = true) (sending : (p.link l).sending = true)
    (queue : (p.link l).outbound = f :: rest) :
    p.frameTransmitted l = Part.countReply (p.setLink l { p.link l with
      outbound := rest, sending := p.control.startup.running && (p.link l).rdyIn && !rest.isEmpty }) l := by
  simp [Part.frameTransmitted, transmits, sending, queue, LinkState.transmitted]

/-- Only a frame that leaves OL brings the end of the RESTART reply nearer (R190). -/
theorem Part.countReply_of_ne_ol (p : Part) {l : Link} (h : l ≠ .ol) : p.countReply l = p := if_neg h

theorem Startup.transmits_of_running {x : Startup} (h : x.running = true) : x.transmits = true := by
  cases x with
  | reset => cases h
  | loading | scanning | restoring | ready | saving | halted => rfl

/-- Settles O20, from what the end of a transmission and a level of RDY_IN do. -/
theorem transmitterSendsInOrder : Obligations.TransmitterSendsInOrder := by
  intro s l
  have ended : exec (.frameTransmitted l) s = .next (s.become (s.toPart.frameTransmitted l)) := rfl
  refine ⟨fun f rest running ne sending queue => ?_, fun f rest running e sending queue => ?_,
    fun f rest halted ne sending queue => ?_, fun running => ?_, ?_⟩
  · rw [ended, Part.frameTransmitted_eq (Startup.transmits_of_running running) sending queue, running,
      Part.countReply_of_ne_ol _ ne, Bool.true_and]
  · subst e
    rw [ended, Part.frameTransmitted_eq (Startup.transmits_of_running running) sending queue, running, Bool.true_and]
    rfl
  · rw [ended, Part.frameTransmitted_eq (by rw [halted]; rfl) sending queue, halted, Part.countReply_of_ne_ol _ ne]
    rfl
  · have asserted : s.toPart.rdyIn l true = s.setLink l { s.link l with
        rdyIn := true, sending := (s.link l).sending || !(s.link l).outbound.isEmpty } := by
      simp [Part.rdyIn, running]
    rw [← asserted]
    rfl
  · have fallen : s.toPart.rdyIn l false = s.setLink l { s.link l with rdyIn := false } := by
      simp [Part.rdyIn]
    rw [← fallen]
    rfl

end Sys2Proof.Machine
end

section
/-! PROOFS. What reset leaves (O4), and the invariants that it meets (O5). -/

namespace Sys2Proof.Machine

/-- A table's value at an index is that of its function. -/
theorem getElem?_tabulate {α : Type} (n : Nat) (f : Nat → α) (i : Nat) :
    (tabulate n f)[i]? = if i < n then some (f i) else none := by
  by_cases h : i < n
  · simp [tabulate, h]
  · simp [tabulate, h]

/-- A table of one value holds it wherever it is read, the value outside the table being the same. -/
theorem getD_tabulate_const {α : Type} (n : Nat) (a : α) (i : Nat) : (tabulate n fun _ => a)[i]?.getD a = a := by
  rw [getElem?_tabulate]
  split <;> rfl

/-- An empty table has no record in use. -/
theorem inUse_tabulate_none {α : Type} (n : Nat) : inUse (tabulate n fun _ => (none : Option α)) = [] := by
  refine List.eq_nil_iff_forall_not_mem.mpr fun (i, a) mem => ?_
  rw [mem_inUse, recordAt_tabulate_none] at mem
  cases mem

/-! ### The reset values, block by block -/

theorem State.reset_link (l : Link) : State.reset.link l = .initial false := by
  match l with
  | .tl .tl0 | .tl .tl1 | .tl .tl2 | .tl .tl3 | .ol | .al => rfl

theorem State.reset_rdyOut (l : Link) : State.reset.rdyOut l = false := rfl

theorem State.reset_terminal (n : Nat) : State.reset.terminal n = .initial := getD_tabulate_const _ _ _

theorem State.reset_checkAt (i : Nat) : State.reset.checkAt i = none := recordAt_tabulate_none _ _

theorem State.reset_claimAt (i : Nat) : State.reset.claimAt i = none := recordAt_tabulate_none _ _

theorem State.reset_entryCell (i : Nat) : State.reset.entryCell i = { generation := 0, use := none } :=
  getD_tabulate_const _ _ _

theorem State.reset_slotAt (i : Nat) : State.reset.journal.slotAt i = none := recordAt_tabulate_none _ _

theorem State.reset_claims_inUse : inUse State.reset.claims = [] := inUse_tabulate_none _

/-- Settles O4, from the values of each block. -/
theorem resetHoldsTheResetValues : Obligations.ResetHoldsTheResetValues := by
  refine ⟨rfl, rfl, rfl, rfl, rfl, rfl, fun l => ?_, rfl, rfl, rfl, rfl, rfl, rfl, fun n _ => ?_, rfl, State.reset_checkAt,
    State.reset_claimAt, fun i => ?_, rfl, rfl, rfl, State.reset_slotAt, rfl, rfl, rfl, rfl, rfl, rfl, rfl, rfl, rfl, rfl, rfl,
    rfl, rfl, rfl, rfl, rfl, rfl, rfl, rfl⟩
  · rw [State.reset_link, State.reset_rdyOut]
    exact ⟨rfl, rfl, rfl, rfl, rfl, rfl, rfl, rfl⟩
  · rw [State.reset_terminal]
    exact ⟨rfl, rfl, rfl, rfl, rfl⟩
  · rw [State.reset_entryCell]
    exact ⟨rfl, rfl⟩

/-! ### The invariants -/

/-- Reset leaves no owner a deadline to have (R170). -/
theorem State.reset_owes (o : Owner) : State.reset.owes o = false := by
  cases o with
  | claimLease i => simp [Part.owes, State.reset_claimAt]
  | auth e generation => simp [Part.owes, State.reset_entryCell]
  | alAlive => rfl
  | alSettle => rfl
  | calGuard => rfl

/-- Reset leaves every entry FREE and in the free list (R127). -/
theorem State.reset_freeListed : State.reset.freeListed = true := by
  have free : State.reset.freeList = List.range 48 := rfl
  simp [Part.freeListed, free, State.reset_entryCell, List.nodup_range]

theorem State.reset_timed : State.reset.timed = true := by
  have deadlines : State.reset.clockUnit.deadlines = [] := rfl
  have startup : State.reset.control.startup = .reset := rfl
  have fit : State.reset.venue.timesFit = true := rfl
  simp [Part.timed, deadlines, startup, fit, State.reset_owes, State.reset_freeListed, State.reset_claims_inUse]

theorem State.reset_journaled : State.reset.journaled = true := by
  have journal : State.reset.journal = .initial := rfl
  have port : State.reset.port = .initial := rfl
  have startup : State.reset.control.startup = .reset := rfl
  have owed : Journal.initial.owed = 0 := by
    simp [Journal.owed, Journal.initial, inUse_tabulate_none]
  have runs : Journal.initial.runs = true := by
    have empty := State.reset_slotAt
    rw [journal] at empty
    have head : Journal.initial.head = 0 := rfl
    have tail : Journal.initial.tail = 0 := rfl
    have occupied : Journal.initial.occupied = 0 := rfl
    simp [Journal.runs, empty, head, tail, occupied]
  have appends : Port.initial.appends = [] := rfl
  have erases : Port.initial.headErases = [] := rfl
  have total : Journal.initial.deferredTotal = 0 := rfl
  have locked : Journal.initial.locked = false := rfl
  simp [Part.journaled, journal, port, startup, owed, runs, appends, erases, total, locked]

/-- Settles O5. -/
theorem invariantsHoldAtReset : Obligations.InvariantsHoldAtReset := by
  refine ⟨(Part.bounded_iff_fits _).mpr (.initial _ _ _ _), rfl, ?_, State.reset_memory_wf, State.reset_timed,
    State.reset_journaled⟩
  simp [Part.claimsApart, State.reset_claims_inUse]

end Sys2Proof.Machine
end

section
/-! PROOFS. Notices, held replies and lease expiries (O21, O22, O49): what joins an outbound queue, in which order, and what is
counted lost. -/

namespace Sys2Proof.Machine

/-! ### Outbound places (R6, R10) -/

/-- Two places are free when at most 14 are taken, the one kept for a reply counted as taken (R6). -/
theorem Part.two_le_freePlaces_iff (p : Part) (l : Link) :
    2 ≤ p.freePlaces l ↔ (p.link l).outbound.length + (if p.kept = some l then 1 else 0) ≤ 14 := by
  unfold Part.freePlaces
  rw [show Config.outboundPlaces = 16 from rfl]
  omega

theorem Part.freePlaces_of_kept_none {p : Part} (h : p.kept = none) (l : Link) :
    p.freePlaces l = 16 - (p.link l).outbound.length := by
  unfold Part.freePlaces
  rw [h]
  rfl

theorem Part.enqueue_room {p : Part} {l : Link} (f : Frame) (room : (p.link l).outbound.length < 16) :
    p.enqueue l f = p.setLink l { p.link l with
      outbound := (p.link l).outbound ++ [f], sending := (p.link l).sending || (p.link l).rdyIn } := by
  rw [Part.enqueue, LinkState.enqueue_room room]

/-! ### Notices (R11) -/

/-- A notice is placed by the three cases of R11. -/
theorem Part.notice_placed (p : Part) (kind : Nat) (fields : List Byte) :
    let taken := (p.link .ol).outbound.length + if p.kept = some .ol then 1 else 0
    let f := p.noticeFrame kind fields
    let q := p.notice kind fields
    (p.noticeList = [] → taken ≤ 14 →
      (q.link .ol).outbound = (p.link .ol).outbound ++ [f] ∧ q.noticeList = [] ∧ q.noticesLost = p.noticesLost) ∧
    (p.noticeList ≠ [] ∨ 14 < taken → p.noticeList.length < 32 →
      q.links = p.links ∧ q.noticeList = p.noticeList ++ [f] ∧ q.noticesLost = p.noticesLost) ∧
    (32 ≤ p.noticeList.length →
      q.links = p.links ∧ q.noticeList = p.noticeList ∧ q.noticesLost = saturate 255 p.noticesLost) := by
  intro taken f q
  have two : 2 ≤ p.freePlaces .ol ↔ taken ≤ 14 := p.two_le_freePlaces_iff .ol
  obtain ⟨empty, places, e⟩ | ⟨no, room, e⟩ | ⟨no, full, e⟩ :=
    Part.placeNotice_cases { p with noticeSequence := p.noticeSequence + 1 } f
  · have direct : q = Part.enqueue { p with noticeSequence := p.noticeSequence + 1 } .ol f := e
    have free : (p.link .ol).outbound.length < 16 := by
      have : taken ≤ 14 := two.mp places
      omega
    refine ⟨fun _ _ => ?_, fun h _ => ?_, fun h => ?_⟩
    · rw [direct, Part.enqueue_room (p := { p with noticeSequence := p.noticeSequence + 1 }) f free]
      exact ⟨congrArg LinkState.outbound (Part.link_setLink_same _ _ _), empty, rfl⟩
    · obtain h | h := h
      · exact absurd empty h
      · exact absurd (two.mp places) (Nat.not_le.mpr h)
    · simp [show p.noticeList = [] from empty] at h
  · have listed : q = { p with noticeSequence := p.noticeSequence + 1, noticeList := p.noticeList ++ [f] } := e
    refine ⟨fun empty few => absurd ⟨empty, two.mpr few⟩ no, fun _ _ => ?_, fun h => absurd room (Nat.not_lt.mpr h)⟩
    rw [listed]
    exact ⟨rfl, rfl, rfl⟩
  · have lost : q = { p with
        noticeSequence := p.noticeSequence + 1, noticesLost := saturate 255 p.noticesLost } := e
    refine ⟨fun empty few => absurd ⟨empty, two.mpr few⟩ no, fun _ room => absurd room (Nat.not_lt.mpr full), fun _ => ?_⟩
    rw [lost]
    exact ⟨rfl, rfl, rfl⟩

theorem Part.notice_noticeSequence (p : Part) (kind : Nat) (fields : List Byte) :
    (p.notice kind fields).noticeSequence = p.noticeSequence + 1 := by
  rw [p.notice_eq kind fields]

/-- The oldest notice of the list moves when the OL queue has two free places (R11). -/
theorem Part.noticeMove_eq {p : Part} {f : Frame} {rest : List Frame} (running : p.control.startup.running = true)
    (kept : p.kept = none) (list : p.noticeList = f :: rest) (few : (p.link .ol).outbound.length ≤ 14) :
    p.noticeMove = { p.setLink .ol { p.link .ol with
        outbound := (p.link .ol).outbound ++ [f], sending := (p.link .ol).sending || (p.link .ol).rdyIn } with
      noticeList := rest } := by
  have places : 2 ≤ p.freePlaces .ol := by
    rw [Part.two_le_freePlaces_iff, kept]
    simpa using few
  have moved : p.noticeMove = Part.enqueue { p with noticeList := rest } .ol f := by
    simp [Part.noticeMove, list, running, places]
  rw [moved, Part.enqueue_room (p := { p with noticeList := rest }) f (Nat.lt_of_le_of_lt few (by decide))]
  rfl

/-- Settles O22. -/
theorem noticesKeepTheirOrder : Obligations.NoticesKeepTheirOrder := by
  refine ⟨fun p kind fields => ⟨p.notice_noticeSequence kind fields, p.notice_kept kind fields, p.notice_placed kind fields⟩,
    fun s f rest running kept list few => ?_⟩
  rw [← Part.noticeMove_eq running kept list few]
  rfl

/-! ### Held replies (R8, R24) -/

/-- Of two times, at most one is later than the other (R169). -/
theorem later_asymm {a b : Time} (h : later a b = true) : later b a = false := by
  simp only [later, decide_eq_true_eq, decide_eq_false_iff_not, BitVec.toInt_eq_toNat_cond, BitVec.toNat_sub] at h ⊢
  omega

theorem firstHeld_eq_left {y z : Nat × HeldReply} (h : z ≠ y → later z.2.number y.2.number = true) : firstHeld y z = y := by
  by_cases e : z = y
  · rw [e]
    exact ite_self _
  · exact if_neg (by simp [later_asymm (h e)])

theorem firstHeld_eq_right {x y : Nat × HeldReply} (h : x ≠ y → later x.2.number y.2.number = true) : firstHeld x y = y := by
  by_cases e : x = y
  · rw [e]
    exact ite_self _
  · exact if_pos (h e)

/-- Of the held replies of a list, the one that every other is numbered later than comes out first (R24). -/
theorem foldl_firstHeld {y : Nat × HeldReply} (xs : List (Nat × HeldReply)) (x : Nat × HeldReply) (mem : y ∈ x :: xs)
    (first : ∀ z ∈ x :: xs, z ≠ y → later z.2.number y.2.number = true) : xs.foldl firstHeld x = y := by
  induction xs generalizing x with
  | nil => exact (List.mem_singleton.mp mem).symm
  | cons z rest ih =>
    have either : firstHeld x z = x ∨ firstHeld x z = z := by
      unfold firstHeld
      split
      · exact .inr rfl
      · exact .inl rfl
    refine ih (firstHeld x z) ?_ fun w hw => first w ?_
    · obtain e | e | later := List.mem_cons.mp mem |>.imp_right List.mem_cons.mp
      · rw [← e, firstHeld_eq_left (first z (by simp) ·)]
        exact List.mem_cons_self
      · rw [← e, firstHeld_eq_right (first x (by simp) ·)]
        exact List.mem_cons_self
      · exact List.mem_cons_of_mem _ later
    · obtain e | later := List.mem_cons.mp hw
      · obtain l | r := either
        · simp [e, l]
        · simp [e, r]
      · simp [later]

/-- The held replies for a link are those of the terminals last heard there (R8). -/
theorem Part.mem_heldFor (p : Part) (t : Tl) (n : Nat) (r : HeldReply) :
    (n, r) ∈ p.heldFor t ↔
      within 1 96 n = true ∧ (p.terminal n).held = some r ∧ ∃ h, (p.terminal n).heard = some h ∧ h.link = t := by
  simp only [Part.heldFor, List.mem_filterMap, List.mem_range'_1, within, Bool.and_eq_true, decide_eq_true_eq]
  constructor
  · rintro ⟨m, range, e⟩
    split at e
    · next heard =>
      obtain ⟨r', held, e⟩ := Option.map_eq_some_iff.mp e
      cases e
      obtain ⟨h, heard, link⟩ : ∃ h, (p.terminal n).heard = some h ∧ decide (h.link = t) = true := by
        cases e : (p.terminal n).heard with
        | none => simp [e] at heard
        | some h => exact ⟨h, rfl, by simpa [e] using heard⟩
      exact ⟨⟨range.1, Nat.le_of_lt_succ (by simpa [Config.terminals, Nat.add_comm] using range.2)⟩, held, h, heard,
        of_decide_eq_true link⟩
    · cases e
  · rintro ⟨range, held, h, heard, link⟩
    exact ⟨n, ⟨range.1, by simp [Config.terminals]; omega⟩, by simp [held, heard, link]⟩

/-- The held reply that moves first is the one that every other for the link is numbered later than (R24). -/
theorem Part.nextHeld_eq {p : Part} {t : Tl} {y : Nat × HeldReply} (mem : y ∈ p.heldFor t)
    (first : ∀ z ∈ p.heldFor t, z ≠ y → later z.2.number y.2.number = true) : p.nextHeld t = some y := by
  unfold Part.nextHeld
  split
  · next none => simp [none] at mem
  · next x rest e =>
    rw [e] at mem first
    rw [foldl_firstHeld rest x mem first]

/-- Settles O21: the reply of the lowest hold number is the one that the search finds. -/
theorem heldRepliesMoveOldestFirst : Obligations.HeldRepliesMoveOldestFirst := by
  intro s t n r running kept room range held heard lowest
  have next : s.toPart.nextHeld t = some (n, r) := by
    refine Part.nextHeld_eq ((s.toPart.mem_heldFor t n r).mpr ⟨range, held, heard⟩) fun (m, r') mem ne => ?_
    obtain ⟨range', held', h, heard', link⟩ := (s.toPart.mem_heldFor t m r').mp mem
    refine lowest m r' h range' (fun e => ne ?_) held' heard' link
    subst e
    rw [held] at held'
    cases held'
    rfl
  have moved : s.toPart.heldReplyMove t
      = (s.setTerminal n { s.terminal n with held := none }).enqueue (.tl t) r.frame := by
    simp [Part.heldReplyMove, next, running, Part.freePlaces_pos kept room]
  rw [Part.enqueue_room (p := s.setTerminal n { s.terminal n with held := none }) r.frame room] at moved
  calc exec (.heldReplyMove t) s = .next (s.become (s.toPart.heldReplyMove t)) := rfl
    _ = _ := by rw [moved]; rfl

/-! ### Advisories (R9) -/

theorem Part.advise_never_heard {p : Part} {n : Nat} (kind : Byte) (body : List Byte) (h : (p.terminal n).heard = none) :
    p.advise n kind body = p := by
  simp only [Part.advise, h]

theorem Part.advise_room {p : Part} {n : Nat} {h : Heard} (kind : Byte) (body : List Byte)
    (heard : (p.terminal n).heard = some h) (room : p.heldWaiting h.link < p.freePlaces (.tl h.link)) :
    p.advise n kind body
      = p.enqueue (.tl h.link) { kind := kind, tag := 0, terminal := BitVec.ofNat 16 n, body := body } := by
  simp only [Part.advise, heard]
  exact if_pos room

theorem Part.advise_lost {p : Part} {n : Nat} {h : Heard} (kind : Byte) (body : List Byte)
    (heard : (p.terminal n).heard = some h) (full : p.freePlaces (.tl h.link) ≤ p.heldWaiting h.link) :
    p.advise n kind body = p.countAdvisoryLost (.tl h.link) := by
  simp only [Part.advise, heard]
  exact if_neg (Nat.not_lt.mpr full)

/-! ### The claim count (R25) -/

theorem Part.countClaim_eq (p : Part) (n : Nat) (f : Nat → Nat) :
    p.countClaim n f = p.setTerminal n { p.terminal n with claimCount := f (p.terminal n).claimCount } := rfl

/-- A claim count that changes leaves where the terminal was heard, also for a number outside the roster. -/
theorem Part.countClaim_heard (p : Part) (n : Nat) (f : Nat → Nat) :
    ((p.countClaim n f).terminal n).heard = (p.terminal n).heard := by
  by_cases h : rosterIndex n < 96
  · simp [Part.countClaim_eq, Part.terminal, h]
  · simp [Part.countClaim_eq, Part.terminal, h]

/-- A roster entry but for its claim count. -/
def RosterEntry.uncounted (e : RosterEntry) : RosterEntry := { e with claimCount := 0 }

/-- How many held replies wait for a link does not depend on the claim counts (R8). -/
theorem Part.heldWaiting_eq_uncounted (p : Part) (t : Tl) : p.heldWaiting t =
    (p.roster.toList.map RosterEntry.uncounted).countP fun e => e.held.isSome && e.heard.any fun h => decide (h.link = t) := by
  rw [List.countP_map]
  rfl

theorem Part.countClaim_uncounted (p : Part) (n : Nat) (f : Nat → Nat) :
    (p.countClaim n f).roster.toList.map RosterEntry.uncounted = p.roster.toList.map RosterEntry.uncounted := by
  rw [Part.countClaim_eq, Part.setTerminal_roster, Vector.toList_setIfInBounds, List.map_set]
  by_cases h : rosterIndex n < 96
  · have entry : ({ p.terminal n with claimCount := f (p.terminal n).claimCount } : RosterEntry).uncounted
        = (p.roster.toList.map RosterEntry.uncounted)[rosterIndex n]'(by simpa using h) := by
      simp [RosterEntry.uncounted, Part.terminal, h]
    rw [entry, List.set_getElem_self]
  · exact List.set_eq_of_length_le (by simpa using h)

theorem Part.countClaim_heldWaiting (p : Part) (n : Nat) (f : Nat → Nat) (t : Tl) :
    (p.countClaim n f).heldWaiting t = p.heldWaiting t := by
  rw [Part.heldWaiting_eq_uncounted, Part.countClaim_uncounted, ← Part.heldWaiting_eq_uncounted]

/-! ### Leases (R25, R98, R104) -/

/-- The part once the first deadline has been delivered, those of `rest` being left, and a claim record is free. -/
def Part.leaseEnded (p : Part) (i : Nat) (rest : List Deadline) : Part :=
  Part.setClaim { p with clockUnit := { p.clockUnit with deadlines := rest } } i none

/-- A record whose lease is the one delivered is freed: the deadline is gone already, and no other names it (R172). -/
theorem Part.freeClaim_delivered {p : Part} {i : Nat} {due : Time} {rest : List Deadline} (c : Claim)
    (list : p.clockUnit.deadlines = { due := due, owner := .claimLease i } :: rest)
    (only : ∀ d ∈ rest, d.owner ≠ .claimLease i) :
    p.deliver.freeClaim i c = (p.leaseEnded i rest).countClaim c.terminal fun n => n - 1 := by
  have left : rest.filter (fun d => decide (d.owner ≠ .claimLease i)) = rest :=
    List.filter_eq_self.mpr fun d mem => decide_eq_true (only d mem)
  have cancelled : p.deliver.cancel (.claimLease i) = { p with clockUnit := { p.clockUnit with deadlines := rest } } := by
    rw [Part.cancel_eq, Part.deliver, list]
    simp only [Part.setDeadlines, Part.setClock, List.tail_cons, left]
  rw [Part.freeClaim, cancelled, Part.leaseEnded]

/-- The lease that falls due frees its claim and tells its holder (R98). -/
theorem Part.claimLeaseExpiry_eq {p : Part} {i : Nat} {c : Claim} {due : Time} {rest : List Deadline}
    (running : p.control.startup.running = true)
    (list : p.clockUnit.deadlines = { due := due, owner := .claimLease i } :: rest) (fallen : (due - p.now).toInt ≤ 0)
    (claim : p.claimAt i = some c) : p.claimLeaseExpiry = p.deliver.loseClaim i c causeExpired := by
  have owner : p.dueOwner = some (.claimLease i) := by
    have due : reached p.now due = true := decide_eq_true fallen
    simp [Part.dueOwner, list, running, due]
  simp only [Part.claimLeaseExpiry, owner, claim]

/-- Settles O49, by where the holder was heard and the places that are free there. -/
theorem leasesExpire : Obligations.LeasesExpire := by
  intro s i x due rest running kept list fallen claim only e p f
  have ran : exec .claimLeaseExpiry s = .next (s.become (Part.advise p x.terminal kindClaimLost (claimLostBody x causeExpired))) := by
    have expired := Part.claimLeaseExpiry_eq running list fallen claim
    rw [Part.loseClaim, Part.freeClaim_delivered x list only] at expired
    exact congrArg (fun q => Host.Outcome.next (s.become q)) expired
  have heardAs : (p.terminal x.terminal).heard = e.heard :=
    (s.leaseEnded i rest).countClaim_heard x.terminal fun n => n - 1
  have waiting : ∀ t, p.heldWaiting t = s.heldWaiting t :=
    (s.leaseEnded i rest).countClaim_heldWaiting x.terminal fun n => n - 1
  have places : ∀ l, p.freePlaces l = 16 - (s.link l).outbound.length := Part.freePlaces_of_kept_none kept
  refine ⟨fun h heard _ => ⟨fun room => ?_, fun full => ?_⟩, fun never => ?_⟩
  · rw [ran, Part.advise_room _ _ (heardAs.trans heard) (by rw [waiting, places]; exact room),
      Part.enqueue_room (p := p) (l := .tl h.link) _ (by
        have : s.heldWaiting h.link < 16 - (s.link (.tl h.link)).outbound.length := room
        show (s.link (.tl h.link)).outbound.length < 16
        omega)]
    rfl
  · rw [ran, Part.advise_lost _ _ (heardAs.trans heard) (by rw [waiting, places]; exact full)]
    rfl
  · rw [ran, Part.advise_never_heard _ _ (heardAs.trans never)]

end Sys2Proof.Machine
end

section
/-! PROOFS. What the links refuse, discard and count (O23, O51), and STATUS (O24). -/

namespace Sys2Proof.Machine

/-! ### Which frames a row takes (log entry 17) -/

theorem ofKind_iff (kind : Byte) (f : Frame) : ofKind kind f = true ↔ f.kind = kind := by
  simp [ofKind]

theorem ofVariant_iff (kind : Byte) (length offset width value : Nat) (f : Frame) :
    ofVariant kind length offset width value f = true ↔
      f.kind = kind ∧ f.body.length = length ∧ fieldAt f.body offset width = value := by
  simp only [ofVariant, ofKind_iff, Frame.hasLength, Bool.and_eq_true, decide_eq_true_eq, and_assoc]
  rfl

/-- A frame of a kind that is not of a variant. -/
theorem not_ofVariant {kind : Byte} {length offset width value : Nat} {f : Frame}
    (h : ¬(f.body.length = length ∧ fieldAt f.body offset width = value)) :
    (!ofVariant kind length offset width value f) = true := by
  rw [Bool.not_eq_true', Bool.eq_false_iff]
  exact fun e => h ((ofVariant_iff _ _ _ _ _ f).mp e).2

/-- A command is the row that takes a frame from terminal link `t`: it hands the frame to one handler, whatever the state. -/
def RowOfTerminal (c : Instr) (t : Tl) (f : Frame) : Prop :=
  ∃ (handles lengthOk : Frame → Bool) (handler : Frame → Part → Handled),
    (∀ s, exec c s = .next (s.become (s.toPart.serveTerminal t handles lengthOk handler))) ∧ handles f = true

/-- A command is the row that takes a frame from OL; `waiting` says that the part waits for a download. -/
def RowOfOrder (c : Instr) (waiting : Bool) (f : Frame) : Prop :=
  ∃ (handles lengthOk : Frame → Bool) (handler : Frame → Part → Handled),
    (∀ s : State, s.control.download.isSome = waiting →
      exec c s = .next (s.become (s.toPart.serveOrder handles false lengthOk handler))) ∧ handles f = true

/-- A command is the row that takes a gateway frame. -/
def RowOfGateway (c : Instr) (f : Frame) : Prop :=
  ∃ (handles : Frame → Bool) (handler : Frame → Part → Part),
    (∀ s, exec c s = .next (s.become (s.toPart.serveGateway handles fun g q => q.takeAnswer g handler))) ∧ handles f = true

theorem rowOfTerminal {c : Instr} {t : Tl} {f : Frame} (takes : takesFromTerminal c t f) : RowOfTerminal c t f := by
  have ofTheKind : ∀ {k}, f.kind = k → ofKind k f = true := (ofKind_iff _ f).mpr
  obtain ⟨kind, other, rfl⟩ | ⟨kind, variant, rfl⟩ | ⟨kind, rfl⟩ | ⟨kind, rfl⟩ | ⟨kind, rfl⟩ | ⟨kind, rfl⟩ | ⟨kind, rfl⟩ |
    ⟨kind, rfl⟩ | ⟨kind, rfl⟩ | ⟨kind, rfl⟩ | ⟨kind, rfl⟩ | ⟨kind, other, rfl⟩ | ⟨kind, variant, rfl⟩ := takes
  · exact ⟨_, _, _, fun _ => rfl, Bool.and_eq_true_iff.mpr ⟨ofTheKind kind, not_ofVariant other⟩⟩
  · exact ⟨_, _, _, fun _ => rfl, (ofVariant_iff _ _ _ _ _ f).mpr ⟨kind, variant⟩⟩
  iterate 9 exact ⟨_, _, _, fun _ => rfl, ofTheKind kind⟩
  · exact ⟨_, _, _, fun _ => rfl, Bool.and_eq_true_iff.mpr ⟨ofTheKind kind, not_ofVariant other⟩⟩
  · exact ⟨_, _, _, fun _ => rfl, (ofVariant_iff _ _ _ _ _ f).mpr ⟨kind, variant⟩⟩

/-- The rows of READ_CHECK, RESOLVE_TENDER and TERMINAL_CONTROL, told apart by a field, are rows of OL. -/
theorem rowOfOrder_variant {c : Instr} {waiting : Bool} {f : Frame} {kind : Byte} {length offset width value : Nat}
    {lengthOk : Frame → Bool} {handler : Frame → Part → Handled}
    (ran : ∀ s, exec c s
      = .next (s.become (s.toPart.serveOrder (ofVariant kind length offset width value) false lengthOk handler)))
    (h : f.kind = kind) (names : f.body.length = length ∧ fieldAt f.body offset width = value) : RowOfOrder c waiting f :=
  ⟨_, _, _, fun s _ => ran s, (ofVariant_iff _ _ _ _ _ f).mpr ⟨h, names⟩⟩

theorem rowOfOrder {c : Instr} {waiting : Bool} {f : Frame} (takes : takesFromOrder c waiting f) :
    RowOfOrder c waiting f := by
  have ofTheKind : ∀ {k}, f.kind = k → ofKind k f = true := (ofKind_iff _ f).mpr
  obtain ⟨kind, rfl⟩ | ⟨kind, rfl⟩ | ⟨kind, rfl⟩ | ⟨kind, rfl⟩ | ⟨kind, rfl⟩ | ⟨kind, rfl⟩ | ⟨kind, rfl⟩ | ⟨kind, rfl⟩ |
    ⟨kind, readCheck⟩ | ⟨kind, resolve⟩ | ⟨kind, control⟩ | ⟨kind, rfl⟩ | ⟨kind, rfl⟩ | ⟨kind, rfl⟩ | ⟨kind, rfl⟩ |
    ⟨rfl, download⟩ := takes
  iterate 8 exact ⟨_, _, _, fun _ _ => rfl, ofTheKind kind⟩
  · obtain ⟨names, rfl⟩ | ⟨names, rfl⟩ | ⟨names, rfl⟩ | ⟨notLines, notShares, notTenders, rfl⟩ := readCheck
    · exact rowOfOrder_variant (fun _ => rfl) kind names
    · exact rowOfOrder_variant (fun _ => rfl) kind names
    · exact rowOfOrder_variant (fun _ => rfl) kind names
    · exact ⟨_, _, _, fun _ _ => rfl, by
        simp only [Bool.and_eq_true]
        exact ⟨⟨⟨ofTheKind kind, not_ofVariant notLines⟩, not_ofVariant notShares⟩, not_ofVariant notTenders⟩⟩
  · obtain ⟨names, rfl⟩ | ⟨notReverse, rfl⟩ := resolve
    · exact rowOfOrder_variant (fun _ => rfl) kind names
    · exact ⟨_, _, _, fun _ _ => rfl, Bool.and_eq_true_iff.mpr ⟨ofTheKind kind, not_ofVariant notReverse⟩⟩
  · obtain ⟨names, rfl⟩ | ⟨names, rfl⟩ | ⟨notBar, notUnbar, rfl⟩ := control
    · exact rowOfOrder_variant (fun _ => rfl) kind names
    · exact rowOfOrder_variant (fun _ => rfl) kind names
    · exact ⟨_, _, _, fun _ _ => rfl, by
        simp only [Bool.and_eq_true]
        exact ⟨⟨ofTheKind kind, not_ofVariant notBar⟩, not_ofVariant notUnbar⟩⟩
  iterate 4 exact ⟨_, _, _, fun _ _ => rfl, ofTheKind kind⟩
  · obtain ⟨kind, rfl⟩ | ⟨kind, rfl⟩ | ⟨kind, rfl⟩ := download
    · exact ⟨_, _, _, fun s none => by rw [← none]; rfl, ofTheKind kind⟩
    · exact ⟨_, _, _, fun s none => by rw [← none]; rfl, ofTheKind kind⟩
    · exact ⟨_, _, _, fun s none => by rw [← none]; rfl, ofTheKind kind⟩

theorem rowOfGateway {c : Instr} {f : Frame} (takes : takesFromGateway c f) : RowOfGateway c f := by
  have ofTheKind : ∀ {k}, f.kind = k → ofKind k f = true := (ofKind_iff _ f).mpr
  obtain ⟨kind, rfl⟩ | ⟨kind, rfl⟩ | ⟨kind, rfl⟩ | ⟨kind, rfl⟩ | ⟨kind, rfl⟩ := takes
  iterate 5 exact ⟨_, _, fun _ => rfl, ofTheKind kind⟩

/-! ### A kind that the link does not accept (R4) -/

/-- A request that is refused without its handler: the frame has left, and the code is answered. -/
theorem Part.taken_refused {p : Part} {l : Link} {f : Frame} (r : Result) (kept : p.kept = none)
    (room : (p.link l).outbound.length < 16) : (p.taken l).conclude l f (.error r) = p.answered l f r.body := by
  have same : { p.taken l with links := p.links, kept := none } = p := by
    simp [Part.taken, Part.dropHead, Part.setLink, ← kept]
  rw [Part.conclude, Part.reply_eq_answered rfl room, same]

theorem Part.takeUnaccepted_eq {p : Part} {l : Link} {f : Frame} (head : p.takable l = some f) (no : f.kind ∉ Link.accepts l) :
    p.takeUnaccepted l = p.refuseKind l f := by
  simp [Part.takeUnaccepted, head, no]

theorem Part.refuseKind_of_ne_al (p : Part) {l : Link} (f : Frame) (h : l ≠ .al) :
    p.refuseKind l f = (p.taken l).conclude l f (.error .badKind) := by
  cases l with
  | tl t => rfl
  | ol => rfl
  | al => exact absurd rfl h

/-- A gateway frame that is discarded and counted (R4, R130). -/
theorem Part.dropHead_countFraming (p : Part) : (p.dropHead .al).countFraming .al = p.setLink .al { p.link .al with
    inbound := (p.link .al).inbound.tail, framingErrors := saturate 65535 (p.link .al).framingErrors } := rfl

/-! ### Before READY (R4) -/

section BeforeReady

variable {s : State} {f : Frame}

theorem Startup.takesFrames_of_beforeReady {x : Startup} (h : x = .loading ∨ x = .scanning ∨ x = .restoring) :
    x.takesFrames = true ∧ x ≠ .ready := by
  obtain rfl | rfl | rfl := h <;> exact ⟨rfl, nofun⟩

/-- A terminal request before READY is refused NOT_READY, whichever row takes it. -/
theorem exec_terminal_notReady {c : Instr} {t : Tl} (row : RowOfTerminal c t f)
    (before : s.control.startup = .loading ∨ s.control.startup = .scanning ∨ s.control.startup = .restoring)
    (kept : s.kept = none) (head : (s.link (.tl t)).inbound.head? = some f)
    (room : (s.link (.tl t)).outbound.length < 16) : exec c s = .next (s.become (s.answered (.tl t) f [0x03])) := by
  obtain ⟨handles, lengthOk, handler, ran, takes⟩ := row
  obtain ⟨frames, notReady⟩ := Startup.takesFrames_of_beforeReady before
  have refused : s.toPart.serveTerminal t handles lengthOk handler
      = (s.taken (.tl t)).conclude (.tl t) f (.error .notReady) := by
    simp only [Part.serveTerminal, Part.takable_of frames kept head (.inr room), takes, if_true]
    exact if_pos notReady
  rw [ran, refused, Part.taken_refused _ kept room]
  rfl

/-- An OL request before READY that is not excepted is refused NOT_READY, whichever row takes it. -/
theorem exec_order_notReady {c : Instr} (row : RowOfOrder c s.control.download.isSome f)
    (before : s.control.startup = .loading ∨ s.control.startup = .scanning ∨ s.control.startup = .restoring)
    (kept : s.kept = none) (head : (s.link .ol).inbound.head? = some f) (room : (s.link .ol).outbound.length < 16) :
    exec c s = .next (s.become (s.answered .ol f [0x03])) := by
  obtain ⟨handles, lengthOk, handler, ran, takes⟩ := row
  obtain ⟨frames, notReady⟩ := Startup.takesFrames_of_beforeReady before
  have refused : s.toPart.serveOrder handles false lengthOk handler = (s.taken .ol).conclude .ol f (.error .notReady) := by
    simp only [Part.serveOrder, Part.takable_of frames kept head (.inr room), takes, if_true]
    exact congrArg ((s.taken .ol).conclude .ol f) (if_pos ⟨notReady, rfl⟩)
  rw [ran s rfl, refused, Part.taken_refused _ kept room]
  rfl

/-- A gateway frame before READY is discarded, and not counted when it carries no terminal number. -/
theorem exec_gateway_notReady {c : Instr} (row : RowOfGateway c f)
    (before : s.control.startup = .loading ∨ s.control.startup = .scanning ∨ s.control.startup = .restoring)
    (kept : s.kept = none) (head : (s.link .al).inbound.head? = some f) (noTerminal : f.terminal = 0) :
    exec c s = .next (s.become (s.setLink .al { s.link .al with inbound := (s.link .al).inbound.tail })) := by
  obtain ⟨handles, handler, ran, takes⟩ := row
  obtain ⟨frames, notReady⟩ := Startup.takesFrames_of_beforeReady before
  have discarded : s.toPart.serveGateway handles (fun g q => q.takeAnswer g handler) = s.dropHead .al := by
    simp only [Part.serveGateway, Part.takable_of frames kept head (.inl rfl), takes, if_true]
    rw [Part.takeAnswer, if_neg (not_not_intro noTerminal)]
    exact if_pos notReady
  rw [ran, discarded]
  rfl

end BeforeReady

/-- Settles O23: by the link for a kind that it does not accept, and by the row that takes the frame before READY. -/
theorem linksRefuseWhatTheyDoNotTake : Obligations.LinksRefuseWhatTheyDoNotTake := by
  refine ⟨fun s l f frames kept head no => ⟨fun notAl room => ?_, fun al => ?_⟩, fun s f c before kept => ⟨?_, ?_, ?_⟩⟩
  · have refused : s.toPart.takeUnaccepted l = s.answered l f [0x01] := by
      rw [Part.takeUnaccepted_eq (Part.takable_of frames kept head (.inr room)) no, Part.refuseKind_of_ne_al _ f notAl,
        Part.taken_refused _ kept room]
      rfl
    rw [← refused]
    rfl
  · subst al
    have counted : s.toPart.takeUnaccepted .al = (s.dropHead .al).countFraming .al :=
      Part.takeUnaccepted_eq (Part.takable_of frames kept head (.inl rfl)) no
    rw [← Part.dropHead_countFraming, ← counted]
    rfl
  · exact fun t head room takes => exec_terminal_notReady (rowOfTerminal takes) before kept head room
  · exact fun head room takes => exec_order_notReady (rowOfOrder takes) before kept head room
  · exact fun head noTerminal takes => exec_gateway_notReady (rowOfGateway takes) before kept head noTerminal

/-! ### Stray answers (R4, R129, R130) -/

/-- A gateway frame that carries a terminal number or is malformed is discarded and counted: its handler never sees it. -/
theorem Part.takeAnswer_stray {p : Part} {f : Frame} (handler : Frame → Part → Part) (ready : p.control.startup = .ready)
    (stray : f.terminal ≠ 0 ∨ f.answerOk = false) : p.takeAnswer f handler = p.countFraming .al := by
  unfold Part.takeAnswer
  split
  · rfl
  · next noTerminal =>
    have malformed : f.answerOk = false := stray.resolve_left noTerminal
    rw [if_neg (not_not_intro ready), malformed]
    rfl

theorem exec_gateway_stray {s : State} {c : Instr} {f : Frame} (row : RowOfGateway c f) (ready : s.control.startup = .ready)
    (kept : s.kept = none) (head : (s.link .al).inbound.head? = some f) (stray : f.terminal ≠ 0 ∨ f.answerOk = false) :
    exec c s = .next (s.become (s.setLink .al { s.link .al with
      inbound := (s.link .al).inbound.tail, framingErrors := saturate 65535 (s.link .al).framingErrors })) := by
  obtain ⟨handles, handler, ran, takes⟩ := row
  have frames : s.control.startup.takesFrames = true := by rw [ready]; rfl
  have counted : s.toPart.serveGateway handles (fun g q => q.takeAnswer g handler) = (s.dropHead .al).countFraming .al := by
    simp only [Part.serveGateway, Part.takable_of frames kept head (.inl rfl), takes, if_true]
    exact Part.takeAnswer_stray handler ready stray
  rw [ran, counted, Part.dropHead_countFraming]

/-- An answer that matches no entry of a kind and state that fit it is counted (R129). -/
theorem Part.answer_stale {p : Part} {f : Frame} {fits : Entry → Bool} (act : Nat → Entry → Part → Part)
    (none : 48 ≤ fieldAt f.body 0 1 ∨ (p.entryCell (fieldAt f.body 0 1)).generation.toNat ≠ fieldAt f.body 1 1 ∨
      ∀ x, (p.entryCell (fieldAt f.body 0 1)).use = some x → fits x = false) :
    p.answer f fits act = { p with staleReplies := saturate 65535 p.staleReplies } := by
  have unmatched : p.matched f fits = .none := by
    unfold Part.matched
    dsimp only
    split
    · next found =>
      have misfit := (none.resolve_left (Nat.not_le.mpr found.1)).resolve_left (not_not_intro found.2)
      rw [Option.map_eq_none_iff, Option.filter_eq_none_iff]
      exact fun x use => by simp [misfit x use]
    · rfl
  simp only [Part.answer, unmatched]
  rfl

theorem Part.alHeard_of_not_down {p : Part} (h : p.alState ≠ .down) :
    p.alHeard = p.rearm .alAlive (seconds p.venue.aliveTimeout) := by
  unfold Part.alHeard
  split
  · next down => exact absurd down h
  · rfl
  · rfl

/-- Settles O51. -/
theorem strayAnswersAreCounted : Obligations.StrayAnswersAreCounted := by
  intro s f ready kept head
  refine ⟨fun c stray takes => exec_gateway_stray (rowOfGateway takes) ready kept head stray,
    fun i kind noTerminal wellFormed up index none => ?_⟩
  subst index
  have stands : s.gatewayReady 0x59 f = true := Part.gatewayReady_iff.mpr ⟨ready, kept, head, kind, noTerminal, wellFormed⟩
  have handed : exec .reversalReply s = .next (s.become ((s.dropHead .al).alHeard.reversalReply f)) :=
    congrArg (fun p => Host.Outcome.next (s.become p)) (Part.serveGateway_ready (handles := ofKind kindReversalReply)
      (handler := fun g q => q.reversalReply g) stands ((ofKind_iff _ f).mpr kind))
  have misfit : ∀ x : Entry, (∀ code source sequence, x.kind ≠ .reversal code source sequence) ∨ x.state = .watch →
      (x.kind.isReversal && !x.watching) = false := by
    intro x h
    obtain other | watch := h
    · cases e : x.kind with
      | live token eligible => rfl
      | drain slot sequence => rfl
      | reversal code source sequence => exact absurd e (other code source sequence)
    · simp [Entry.watching, watch]
  rw [handed, Part.alHeard_of_not_down (p := s.dropHead .al) up, Part.reversalReply, Part.answer_stale]
  · rfl
  · exact none.imp_right (Or.imp_right fun h x use => misfit x (h x use))

/-! ### STATUS (R13, R14) -/

/-- The flags byte is the sum of its flags (R14). -/
theorem Part.flagsByte_eq (p : Part) : p.flagsByte = flagByte p.control.clamped + 2 * flagByte p.control.defaulted
    + 4 * flagByte p.control.restorePartial + 8 * flagByte p.clockUnit.calFail := by
  unfold Part.flagsByte
  cases p.control.clamped <;> cases p.control.defaulted <;> cases p.control.restorePartial <;>
    cases p.clockUnit.calFail <;> rfl

theorem Startup.code_eq (x : Startup) : x.code =
    match x with
    | .loading => 1 | .scanning => 2 | .restoring => 3 | .ready => 4 | .reset | .saving | .halted => 0 := by
  cases x <;> rfl

theorem AlState.code_eq (x : AlState) : x.code = match x with | .down => 0 | .settling => 1 | .up => 2 := by
  cases x <;> rfl

/-- The checks in use, read slot by slot. -/
def Part.checkList (p : Part) : List Check := (List.range 160).filterMap p.checkAt

theorem Part.checks_inUse_snd (p : Part) : (inUse p.checks).map Prod.snd = p.checkList := inUse_map_snd _

theorem Part.checksInUse_eq (p : Part) : p.checksInUse = p.checkList.length := by
  rw [← p.checks_inUse_snd, List.length_map]
  rfl

theorem Part.linesInUse_eq (p : Part) : p.linesInUse = (p.checkList.map fun c => c.lines.length).sum := by
  rw [← p.checks_inUse_snd, List.map_map]
  rfl

theorem Part.tendersInUse_eq (p : Part) : p.tendersInUse = (p.checkList.map fun c => c.tenders.length).sum := by
  rw [← p.checks_inUse_snd, List.map_map]
  rfl

theorem Part.claimsInUse_eq (p : Part) : p.claimsInUse = ((List.range 64).filterMap p.claimAt).length := by
  rw [show (List.range 64).filterMap p.claimAt = (inUse p.claims).map Prod.snd from (inUse_map_snd p.claims).symm,
    List.length_map]
  rfl

theorem Part.entriesInUse_eq (p : Part) :
    p.entriesInUse = ((List.range 48).filterMap fun e => (p.entryCell e).use).length := by
  have cells : p.entries.toList = (List.range 48).map p.entryCell := by
    apply List.ext_getElem
    · simp
    · intro i h _
      simp at h
      simp [Part.entryCell, h]
  rw [Part.entriesInUse, cells, List.countP_map, List.length_filterMap_eq_countP]
  rfl

theorem LinkState.length_counterBytes (x : LinkState) (isTerminal : Bool) : (x.counterBytes isTerminal).length = 8 := by
  simp only [LinkState.counterBytes, List.length_append, length_leBytes]

theorem Part.length_statusFields (p : Part) : p.statusFields.length = 72 := by
  unfold Part.statusFields
  simp only [List.length_append, length_leBytes, LinkState.length_counterBytes]
  rfl

theorem LinkState.enqueue_clearCounters (x : LinkState) (f : Frame) :
    x.clearCounters.enqueue f = (x.enqueue f).clearCounters := by
  obtain ⟨room, e⟩ | ⟨full, e⟩ := x.enqueue_cases f
  · rw [e, LinkState.enqueue_room (x := x.clearCounters) room]
    rfl
  · rw [e, LinkState.enqueue_full (x := x.clearCounters) f full]

/-- A reply that joins OL when the counters have been set to 0 joins as before (R13). -/
theorem Part.reply_clearCounters (p : Part) (f : Frame) : p.clearCounters.reply .ol f = (p.reply .ol f).clearCounters := by
  have link : p.clearCounters.releasePlace.link .ol = (p.releasePlace.link .ol).clearCounters := rfl
  rw [Part.reply, Part.enqueue, link, LinkState.enqueue_clearCounters]
  rfl

/-- A frame that leaves an inbound queue changes nothing that STATUS reports. -/
theorem Part.statusFields_taken (p : Part) : (p.taken .ol).statusFields = p.statusFields := by
  unfold Part.statusFields
  rfl

theorem Part.conclude_ok (p q : Part) (l : Link) (f : Frame) (fields : List Byte) :
    p.conclude l f (.ok (q, some fields)) = q.reply l (replyFrame f (0 :: fields)) :=
  rfl

/-- STATUS in any state that takes frames: the part as it stands is answered, and the counters are then 0. -/
theorem Part.serveOrder_status {p : Part} {f : Frame} (frames : p.control.startup.takesFrames = true) (kept : p.kept = none)
    (head : (p.link .ol).inbound.head? = some f) (room : (p.link .ol).outbound.length < 16) (kind : f.kind = 0x3C)
    (noTerminal : f.terminal = 0) (empty : f.body = []) :
    p.serveOrder (ofKind kindStatus) true (fun f => f.hasLength 0) statusRequest
      = (p.answered .ol f (0 :: p.statusFields)).clearCounters := by
  have takes : ofKind kindStatus f = true := (ofKind_iff _ f).mpr kind
  have length : f.hasLength 0 = true := by simp [Frame.hasLength, empty]
  have same : { p.taken .ol with links := p.links, kept := none } = p := by
    simp [Part.taken, Part.dropHead, Part.setLink, ← kept]
  have carriedOut : p.serveOrder (ofKind kindStatus) true (fun f => f.hasLength 0) statusRequest
      = (p.taken .ol).conclude .ol f (statusRequest f (p.taken .ol)) := by
    simp [Part.serveOrder, Part.takable_of frames kept head (.inr room), takes, length, Part.handleOrder, noTerminal,
      lengthThen]
  rw [carriedOut, statusRequest, Part.conclude_ok, Part.reply_clearCounters, Part.statusFields_taken, Part.reply_eq_answered rfl room, same]

/-- Settles O24: the fields of the reply are those of R14, and the counters are cleared with the reply. -/
theorem statusReportsAndClearsTheCounters : Obligations.StatusReportsAndClearsTheCounters := by
  intro s f frames kept head room kind noTerminal empty checks counters ofTerminal fields cleared p
  have reported : s.statusFields = fields := by
    unfold Part.statusFields
    rw [s.checksInUse_eq, s.linesInUse_eq, s.tendersInUse_eq, s.claimsInUse_eq, s.entriesInUse_eq,
      s.flagsByte_eq, Startup.code_eq, AlState.code_eq]
    rfl
  refine ⟨?_, ?_⟩
  · rw [← reported, List.length_cons, s.length_statusFields]
  · have answered := Part.serveOrder_status frames kept head room kind noTerminal empty
    rw [reported] at answered
    exact congrArg (fun q => Host.Outcome.next (s.become q)) answered

end Sys2Proof.Machine
end

section
/-! PROOFS. The checks that a request makes in order; and advisories, late replies and lost claims as the statements write
them: `Part.told`, `Part.lateSent` and `Part.deprived` are what the model's operations do. -/

namespace Sys2Proof.Machine

/-! ### The checks of a request (R4, step 5) -/

theorem ensure_pass {α : Type} {holds : Bool} (r : Result) (h : holds = true) (next : Unit → Except Result α) :
    (ensure holds r >>= next) = next () := by
  rw [h]
  rfl

theorem ensure_fail {α : Type} {holds : Bool} (r : Result) (h : holds = false) (next : Unit → Except Result α) :
    (ensure holds r >>= next) = .error r := by
  rw [h]
  rfl

theorem orRefuse_some {α β : Type} {x : Option α} {a : α} (r : Result) (h : x = some a) (next : α → Except Result β) :
    (orRefuse x r >>= next) = next a := by
  rw [h]
  rfl

theorem orRefuse_none {α β : Type} {x : Option α} (r : Result) (h : x = none) (next : α → Except Result β) :
    (orRefuse x r >>= next) = .error r := by
  rw [h]
  rfl

theorem Frame.field_eq (f : Frame) (offset width : Nat) : f.field offset width = fieldAt f.body offset width := rfl

/-! ### A frame for a terminal link (R6, R8, R9) -/

theorem Part.places_eq_freePlaces (p : Part) (t : Tl) : p.places t = p.freePlaces (.tl t) := rfl

theorem Part.enqueue_eq_queues {p : Part} {t : Tl} (f : Frame) (free : 0 < p.places t) : p.enqueue (.tl t) f = p.queues t f :=
  Part.enqueue_room f (by unfold Part.places at free; omega)

theorem Part.advise_eq_told (p : Part) (n : Nat) (kind : Byte) (body : List Byte) : p.advise n kind body = p.told n kind body := by
  unfold Part.told
  split
  · next never => exact Part.advise_never_heard kind body never
  · next h heard =>
    by_cases room : p.heldWaiting h.link < p.places h.link
    · rw [Part.advise_room kind body heard room, Part.enqueue_eq_queues _ (Nat.zero_lt_of_lt room)]
      exact (if_pos room).symm
    · rw [Part.advise_lost kind body heard (Nat.not_lt.mp room)]
      exact (if_neg room).symm

theorem Part.lateReply_never_heard {p : Part} {n : Nat} (f : Frame) (never : (p.terminal n).heard = none) :
    p.lateReply n f = p.hold n f := by
  simp only [Part.lateReply, never]

theorem Part.lateReply_heard {p : Part} {n : Nat} {h : Heard} (f : Frame) (heard : (p.terminal n).heard = some h) :
    p.lateReply n f = if 0 < p.places h.link then p.queues h.link f else p.hold n f := by
  simp only [Part.lateReply, heard]
  exact ite_congr rfl (fun free => Part.enqueue_eq_queues f free) fun _ => rfl

theorem Part.lateReply_eq_lateSent (p : Part) (n : Nat) (f : Frame) : p.lateReply n f = p.lateSent n f := by
  unfold Part.lateSent
  split
  · next never => exact Part.lateReply_never_heard f never
  · next h heard => exact Part.lateReply_heard f heard

/-! ### Lost claims (R25, R102 to R104) -/

theorem Scope.code_eq (x : Scope) : x.code = match x with | .whole => 0 | .share k => k := by
  cases x <;> rfl

theorem Part.loseClaim_eq_deprived (p : Part) (i : Nat) (c : Claim) (cause : Nat) :
    p.loseClaim i c cause = p.deprived cause (i, c) := by
  rw [Part.loseClaim, Part.advise_eq_told, claimLostBody, Scope.code_eq]
  rfl

theorem Part.loseAll_eq_foldl (p : Part) (xs : List (Nat × Claim)) (cause : Nat) :
    p.loseAll xs cause = xs.foldl (Part.deprived cause) p := by
  induction xs generalizing p with
  | nil => rfl
  | cons x rest ih =>
    rw [Part.loseAll, Part.loseClaim_eq_deprived, ih]
    rfl

/-- The ACTIVE claims of a terminal are lost in the order of their records (R19, R22; log entry 14). -/
theorem Part.loseActive_eq_foldl (p : Part) (n cause : Nat) : p.loseActive n cause =
    ((inUse p.claims).filter fun x => decide (x.2.terminal = n) && decide (x.2.state = .active)).foldl (Part.deprived cause) p :=
  p.loseAll_eq_foldl _ cause

end Sys2Proof.Machine
end

section
/-! PROOFS. What an advisory, a lost claim and a notice leave: the part but for the links and the claims, the place kept for a
reply, and the head of an inbound queue, which may leave before them or after. -/

namespace Sys2Proof.Machine

/-! ### Reading the roster after a write -/

/-- A terminal reads the entry written when the write reached its place, and else what it read before. -/
theorem Part.terminal_setTerminal_cases (p : Part) (n m : Nat) (e : RosterEntry) :
    (p.terminal m = p.terminal n ∧ (p.setTerminal n e).terminal m = e) ∨ (p.setTerminal n e).terminal m = p.terminal m := by
  by_cases same : rosterIndex n = rosterIndex m
  · by_cases inside : rosterIndex m < 96
    · exact .inl (by simp [Part.terminal, same, inside])
    · exact .inr (by simp [Part.terminal, same, inside])
  · exact .inr (by simp [Part.terminal, same])

/-- A roster entry written back as it reads changes nothing. -/
theorem Part.setTerminal_terminal (p : Part) (n : Nat) : p.setTerminal n (p.terminal n) = p := by
  by_cases inside : rosterIndex n < 96
  · have same : p.roster.setIfInBounds (rosterIndex n) p.roster[rosterIndex n] = p.roster := by
      refine Vector.ext fun k hk => ?_
      rw [Vector.getElem_setIfInBounds]
      split
      · next e => simp [e]
      · rfl
    simp [Part.setTerminal, Part.terminal, inside, same]
  · simp [Part.setTerminal, Vector.setIfInBounds_eq_of_size_le (Nat.le_of_not_lt inside)]

/-! ### What an advisory leaves (R9) -/

section
variable (p : Part) (n : Nat) (kind : Byte) (body : List Byte)

/-- An advisory writes the links alone. -/
theorem Part.told_eq : p.told n kind body = { p with links := (p.told n kind body).links } := by
  rw [← Part.advise_eq_told]
  exact p.advise_eq n kind body

@[simp] theorem Part.told_kept : (p.told n kind body).kept = p.kept := by rw [Part.told_eq]
@[simp] theorem Part.told_claims : (p.told n kind body).claims = p.claims := by rw [Part.told_eq]
@[simp] theorem Part.told_checks : (p.told n kind body).checks = p.checks := by rw [Part.told_eq]
@[simp] theorem Part.told_roster : (p.told n kind body).roster = p.roster := by rw [Part.told_eq]
@[simp] theorem Part.told_terminal (m : Nat) : (p.told n kind body).terminal m = p.terminal m := by
  simp [Part.terminal]

theorem Part.told_never_heard {p : Part} {n : Nat} (kind : Byte) (body : List Byte) (never : (p.terminal n).heard = none) :
    p.told n kind body = p := by
  simp only [Part.told, never]

theorem Part.told_heard {p : Part} {n : Nat} {h : Heard} (kind : Byte) (body : List Byte)
    (heard : (p.terminal n).heard = some h) : p.told n kind body =
      if p.heldWaiting h.link < p.places h.link then
        p.queues h.link { kind := kind, tag := 0, terminal := BitVec.ofNat 16 n, body := body }
      else p.setLink (.tl h.link) { p.link (.tl h.link) with
        advisoriesLost := saturate 65535 (p.link (.tl h.link)).advisoriesLost } := by
  simp only [Part.told, heard]

/-- An advisory goes to a terminal link. -/
@[simp] theorem Part.told_link_ol : (p.told n kind body).link .ol = p.link .ol := by
  cases heard : (p.terminal n).heard with
  | none => rw [Part.told_never_heard kind body heard]
  | some h =>
    rw [Part.told_heard kind body heard]
    split
    · exact Part.link_setLink_tl_ol _ _ _
    · exact Part.link_setLink_tl_ol _ _ _

end

/-! ### The place kept for a reply (R6) -/

/-- A place of terminal link `t`'s outbound queue is kept for a reply, and it is free. -/
def Part.KeepsPlace (p : Part) (t : Tl) : Prop := p.kept = some (.tl t) ∧ (p.link (.tl t)).outbound.length < 16

theorem Part.KeepsPlace.told {p : Part} {t : Tl} (h : p.KeepsPlace t) (n : Nat) (kind : Byte) (body : List Byte) :
    (p.told n kind body).KeepsPlace t := by
  obtain ⟨kept, room⟩ := h
  refine ⟨(p.told_kept n kind body).trans kept, ?_⟩
  cases heard : (p.terminal n).heard with
  | none =>
    rw [Part.told_never_heard kind body heard]
    exact room
  | some x =>
    rw [Part.told_heard kind body heard]
    by_cases link : x.link = t
    · subst link
      split
      · next free =>
        simp only [Part.places, kept, if_true] at free
        simp only [Part.queues, Part.link_setLink_same, List.length_append, List.length_singleton]
        omega
      · simpa only [Part.link_setLink_same] using room
    · have other : Link.tl x.link ≠ .tl t := fun e => link (Link.tl.inj e)
      split
      · rw [Part.queues, Part.link_setLink_other _ _ other]
        exact room
      · rw [Part.link_setLink_other _ _ other]
        exact room

theorem Part.KeepsPlace.notice {p : Part} {t : Tl} (h : p.KeepsPlace t) (kind : Nat) (fields : List Byte) :
    (p.notice kind fields).KeepsPlace t := by
  refine ⟨(p.notice_kept kind fields).trans h.1, ?_⟩
  unfold Part.notice
  obtain ⟨_, _, e⟩ | ⟨_, _, e⟩ | ⟨_, _, e⟩ :=
    Part.placeNotice_cases { p with noticeSequence := p.noticeSequence + 1 } (p.noticeFrame kind fields)
  · rw [e, Part.enqueue, Part.link_setLink_ol_tl]
    exact h.2
  · rw [e]
    exact h.2
  · rw [e]
    exact h.2

/-! ### What a lost claim leaves (R25) -/

theorem Part.countClaim_terminal_state (p : Part) (n : Nat) (f : Nat → Nat) (m : Nat) :
    ((p.countClaim n f).terminal m).state = (p.terminal m).state := by
  rw [Part.countClaim_eq]
  obtain ⟨same, written⟩ | other := p.terminal_setTerminal_cases n m
    { p.terminal n with claimCount := f (p.terminal n).claimCount }
  · rw [written, same]
  · rw [other]

/-- A lost claim is a record freed and an advisory to its holder (R104). -/
theorem Part.deprived_eq (cause : Nat) (p : Part) (x : Nat × Claim) : p.deprived cause x =
    (p.freeClaim x.1 x.2).told x.2.terminal 0x03 (leBytes 2 x.2.check
      ++ leBytes 1 (match x.2.scope with | .whole => 0 | .share k => k) ++ leBytes 1 cause ++ timeBytes x.2.grantedAt) := rfl

section
variable (cause : Nat) (p : Part) (x : Nat × Claim)

@[simp] theorem Part.deprived_kept : (p.deprived cause x).kept = p.kept := by rw [Part.deprived_eq, Part.told_kept]; rfl
@[simp] theorem Part.deprived_checks : (p.deprived cause x).checks = p.checks := by
  rw [Part.deprived_eq, Part.told_checks]; rfl
@[simp] theorem Part.deprived_link_ol : (p.deprived cause x).link .ol = p.link .ol := by
  rw [Part.deprived_eq, Part.told_link_ol]; rfl

/-- A lost claim lowers a claim count, and leaves the roster states. -/
@[simp] theorem Part.deprived_terminal_state (m : Nat) :
    ((p.deprived cause x).terminal m).state = (p.terminal m).state := by
  rw [Part.deprived_eq, Part.told_terminal, Part.freeClaim, Part.countClaim_terminal_state]
  rfl

end

theorem Part.KeepsPlace.deprived {p : Part} {t : Tl} (h : p.KeepsPlace t) (cause : Nat) (x : Nat × Claim) :
    (p.deprived cause x).KeepsPlace t :=
  Part.KeepsPlace.told (p := p.freeClaim x.1 x.2) h _ _ _

theorem Part.KeepsPlace.lost {p : Part} {t : Tl} (h : p.KeepsPlace t) (cause : Nat) (xs : List (Nat × Claim)) :
    (xs.foldl (Part.deprived cause) p).KeepsPlace t := by
  induction xs generalizing p with
  | nil => exact h
  | cons x rest ih => exact ih (h.deprived cause x)

section
variable (cause : Nat) (p : Part) (xs : List (Nat × Claim))

/-- What each lost claim leaves, all leave. -/
theorem Part.lost_leaves {α : Type} (reads : Part → α)
    (leaves : ∀ (q : Part) (x : Nat × Claim), reads (q.deprived cause x) = reads q) :
    reads (xs.foldl (Part.deprived cause) p) = reads p := by
  induction xs generalizing p with
  | nil => rfl
  | cons x rest ih => exact (ih _).trans (leaves p x)

theorem Part.lost_kept : (xs.foldl (Part.deprived cause) p).kept = p.kept :=
  Part.lost_leaves cause p xs Part.kept (Part.deprived_kept cause)

theorem Part.lost_link_ol : (xs.foldl (Part.deprived cause) p).link .ol = p.link .ol :=
  Part.lost_leaves cause p xs (fun q => q.link .ol) (Part.deprived_link_ol cause)

theorem Part.lost_terminal_state (m : Nat) :
    ((xs.foldl (Part.deprived cause) p).terminal m).state = (p.terminal m).state :=
  Part.lost_leaves cause p xs (fun q => (q.terminal m).state) fun q x => q.deprived_terminal_state cause x m

end

/-! ### The head of an inbound queue leaves before or after (R5) -/

/-- A link once the frame at the head of its inbound queue has left. -/
def LinkState.dropped (x : LinkState) : LinkState := { x with inbound := x.inbound.tail }

theorem Links.set_comm (ls : Links) {l k : Link} (ne : l ≠ k) (x y : LinkState) :
    (ls.set l x).set k y = (ls.set k y).set l x := by
  cases l with
  | tl t =>
    cases k with
    | tl u => cases t <;> cases u <;> simp_all [Links.set]
    | ol => cases t <;> rfl
    | al => cases t <;> rfl
  | ol => cases k with | tl u => cases u <;> rfl | ol => exact absurd rfl ne | al => rfl
  | al => cases k with | tl u => cases u <;> rfl | ol => rfl | al => exact absurd rfl ne

section
variable (p : Part) (l : Link)

theorem Part.dropHead_outbound (k : Link) : ((p.dropHead l).link k).outbound = (p.link k).outbound := by
  by_cases e : l = k
  · subst e
    rw [Part.dropHead, Part.link_setLink_same]
  · rw [Part.dropHead, Part.link_setLink_other _ _ e]

theorem Part.dropHead_freePlaces (k : Link) : (p.dropHead l).freePlaces k = p.freePlaces k := by
  unfold Part.freePlaces
  rw [Part.dropHead_outbound]
  rfl

/-- A change of a link that neither reads nor writes its inbound queue. -/
theorem Part.dropHead_setLink (k : Link) (g : LinkState → LinkState) (h : ∀ x, g x.dropped = (g x).dropped) :
    (p.dropHead l).setLink k (g ((p.dropHead l).link k)) = (p.setLink k (g (p.link k))).dropHead l := by
  by_cases e : l = k
  · subst e
    have same : (p.dropHead l).link l = (p.link l).dropped := Part.link_setLink_same _ _ _
    rw [same, h, Part.dropHead, Part.setLink_setLink, Part.dropHead, Part.link_setLink_same, Part.setLink_setLink]
    rfl
  · have other : (p.dropHead l).link k = p.link k := Part.link_setLink_other _ _ e
    rw [other, Part.dropHead, Part.dropHead, Part.link_setLink_other _ _ (Ne.symm e)]
    simp only [Part.setLink, Links.set_comm _ e]

theorem LinkState.enqueue_dropped (x : LinkState) (f : Frame) : x.dropped.enqueue f = (x.enqueue f).dropped := by
  obtain ⟨room, e⟩ | ⟨full, e⟩ := x.enqueue_cases f
  · rw [e, LinkState.enqueue_room (x := x.dropped) room]
    rfl
  · rw [e, LinkState.enqueue_full (x := x.dropped) f full]

theorem Part.dropHead_enqueue (k : Link) (f : Frame) : (p.dropHead l).enqueue k f = (p.enqueue k f).dropHead l :=
  p.dropHead_setLink l k (fun x => x.enqueue f) fun x => x.enqueue_dropped f

theorem Part.dropHead_told (n : Nat) (kind : Byte) (body : List Byte) :
    (p.dropHead l).told n kind body = (p.told n kind body).dropHead l := by
  cases heard : (p.terminal n).heard with
  | none => rw [Part.told_never_heard (p := p.dropHead l) kind body heard, Part.told_never_heard kind body heard]
  | some h =>
    have places : (p.dropHead l).places h.link = p.places h.link := p.dropHead_freePlaces l (.tl h.link)
    have waiting : (p.dropHead l).heldWaiting h.link = p.heldWaiting h.link := rfl
    rw [Part.told_heard (p := p.dropHead l) kind body heard, Part.told_heard kind body heard, places, waiting]
    split
    · exact p.dropHead_setLink l (.tl h.link) (fun x => { x with
        outbound := x.outbound ++ [_], sending := x.sending || x.rdyIn }) fun _ => rfl
    · exact p.dropHead_setLink l (.tl h.link) (fun x => { x with
        advisoriesLost := saturate 65535 x.advisoriesLost }) fun _ => rfl

theorem Part.dropHead_deprived (cause : Nat) (x : Nat × Claim) :
    (p.dropHead l).deprived cause x = (p.deprived cause x).dropHead l :=
  (p.freeClaim x.1 x.2).dropHead_told l _ _ _

theorem Part.dropHead_lost (cause : Nat) (xs : List (Nat × Claim)) :
    xs.foldl (Part.deprived cause) (p.dropHead l) = (xs.foldl (Part.deprived cause) p).dropHead l :=
  List.foldl_hom (fun q : Part => q.dropHead l) fun q x => q.dropHead_deprived l cause x

theorem Part.dropHead_notice (kind : Nat) (fields : List Byte) :
    (p.dropHead l).notice kind fields = (p.notice kind fields).dropHead l := by
  have place : ∀ (q : Part) (f : Frame), (q.dropHead l).placeNotice f = (q.placeNotice f).dropHead l := by
    intro q f
    unfold Part.placeNotice
    rw [Part.dropHead_freePlaces, Part.dropHead_enqueue, apply_ite (fun r : Part => r.dropHead l),
      apply_ite (fun r : Part => r.dropHead l)]
    rfl
  exact place { p with noticeSequence := p.noticeSequence + 1 } (p.noticeFrame kind fields)

end

/-- A reply once its request has been handled with the frame still at the head of the queue. -/
theorem Part.reply_dropHead {p : Part} {l : Link} (f : Frame) (body : List Byte) (room : (p.link l).outbound.length < 16) :
    (p.dropHead l).reply l (replyFrame f body) = p.concluded l f body :=
  Part.reply_eq_answered (p := p) (q := p.dropHead l) rfl room

/-! ### A place kept on OL -/

/-- A place kept on OL is none of a terminal link's. -/
theorem Part.told_keeping_ol {p : Part} (kept : p.kept = none) (n : Nat) (kind : Byte) (body : List Byte) :
    (p.keeping .ol).told n kind body = (p.told n kind body).keeping .ol := by
  cases heard : (p.terminal n).heard with
  | none => rw [Part.told_never_heard (p := p.keeping .ol) kind body heard, Part.told_never_heard kind body heard]
  | some h =>
    have places : (p.keeping .ol).places h.link = p.places h.link := by simp [Part.places, Part.keeping, kept, Part.link]
    have waiting : (p.keeping .ol).heldWaiting h.link = p.heldWaiting h.link := rfl
    rw [Part.told_heard (p := p.keeping .ol) kind body heard, Part.told_heard kind body heard, places, waiting]
    split
    · rfl
    · rfl

theorem Part.lost_keeping_ol {p : Part} (kept : p.kept = none) (cause : Nat) (xs : List (Nat × Claim)) :
    xs.foldl (Part.deprived cause) (p.keeping .ol) = (xs.foldl (Part.deprived cause) p).keeping .ol := by
  induction xs generalizing p with
  | nil => rfl
  | cons x rest ih =>
    have lost : (p.keeping .ol).deprived cause x = (p.deprived cause x).keeping .ol :=
      Part.told_keeping_ol (p := p.freeClaim x.1 x.2) kept _ _ _
    rw [List.foldl_cons, lost, ih ((p.deprived_kept cause x).trans kept)]
    rfl

end Sys2Proof.Machine
end

section
/-! PROOFS. The Terminal Roster and TERMINAL_CONTROL (O44). -/

namespace Sys2Proof.Machine

/-! ### What the Roster makes of a frame (R17 to R20) -/

theorem Part.permitted_iff (p : Part) (n : Nat) :
    p.permitted n = true ↔ 1 ≤ n ∧ n ≤ 96 ∧ p.venue.permits.getLsbD (n - 1) = true := by
  simp only [Part.permitted, within, Bool.and_eq_true, decide_eq_true_eq, and_assoc]
  rfl

theorem Part.permitted_range {p : Part} {n : Nat} (h : p.permitted n = true) : within 1 96 n = true := by
  obtain ⟨low, high, _⟩ := (p.permitted_iff n).mp h
  simp [within, low, high]

/-- What the entry keeps of a frame that updates it (R20). -/
def Part.heardAs (p : Part) (t : Tl) (f : Frame) : Heard := { link := t, time := p.now, tag := f.tag, kind := f.kind }

theorem Part.hear_eq (p : Part) (t : Tl) (f : Frame) : p.hear t f =
    p.setTerminal f.sender { p.terminal f.sender with heard := some (p.heardAs t f) } := rfl

/-- The ACTIVE claims of a terminal, in the order of their records (R102). -/
def Part.activeClaims (p : Part) (n : Nat) : List (Nat × Claim) :=
  (inUse p.claims).filter fun x => decide (x.2.terminal = n) && decide (x.2.state = .active)

/-- The part once a frame has been taken for a second identity (R19). -/
def Part.suspected (p : Part) (t : Tl) (f : Frame) (previous : Tl) : Part :=
  Part.notice ((p.activeClaims f.sender).foldl (Part.deprived 2)
      (p.setTerminal f.sender { p.terminal f.sender with state := .suspect, heard := some (p.heardAs t f) }))
    3 (suspectFields f previous t)

section
variable {p : Part} {t : Tl} {f : Frame}

theorem Part.rosterStep_unpermitted (no : p.permitted f.sender = false) :
    p.rosterStep t f = .refused .unknownTerminal p := by
  simp only [Part.rosterStep, no, Bool.not_false, if_true]

theorem Part.rosterStep_copy {h : Heard} (permitted : p.permitted f.sender = true)
    (heard : (p.terminal f.sender).heard = some h) (window : h.link ≠ t ∧ (p.now - h.time).toNat ≤ p.venue.duplicateWindow)
    (same : h.tag = f.tag ∧ h.kind = f.kind) :
    p.rosterStep t f = .discarded { p with reheard := saturate 65535 p.reheard } := by
  simp only [Part.rosterStep, permitted, heard, Bool.not_true, if_pos window, if_pos same]
  rfl

theorem Part.rosterStep_different {h : Heard} (permitted : p.permitted f.sender = true)
    (heard : (p.terminal f.sender).heard = some h) (window : h.link ≠ t ∧ (p.now - h.time).toNat ≤ p.venue.duplicateWindow)
    (other : ¬(h.tag = f.tag ∧ h.kind = f.kind)) : p.rosterStep t f = p.secondIdentity t f h.link := by
  simp only [Part.rosterStep, permitted, heard, Bool.not_true, if_pos window, if_neg other]
  rfl

/-- A frame that no other link heard within the window goes on to the state check. -/
theorem Part.rosterStep_fresh (permitted : p.permitted f.sender = true)
    (outside : ∀ h, (p.terminal f.sender).heard = some h →
      ¬(h.link ≠ t ∧ (p.now - h.time).toNat ≤ p.venue.duplicateWindow)) : p.rosterStep t f = p.letPass t f := by
  unfold Part.rosterStep
  rw [permitted]
  cases heard : (p.terminal f.sender).heard with
  | none => rfl
  | some h => exact if_neg (outside h heard)

/-- A second identity: the entry is SUSPECT, its ACTIVE claims are lost, and TERMINAL_SUSPECT is produced (R19). -/
theorem Part.secondIdentity_suspects {previous : Tl} (range : within 1 96 f.sender = true)
    (state : (p.terminal f.sender).state = .unseen ∨ (p.terminal f.sender).state = .active) :
    p.secondIdentity t f previous = .refused .suspect (p.suspected t f previous) := by
  have entry : (p.hear t f).setRosterState f.sender .suspect
      = p.setTerminal f.sender { p.terminal f.sender with state := .suspect, heard := some (p.heardAs t f) } := by
    rw [Part.hear_eq, Part.setRosterState, Part.terminal_setTerminal_same _ _ range, Part.setTerminal_setTerminal]
  unfold Part.secondIdentity
  obtain unseen | active := state
  · simp only [unseen, entry, Part.loseActive_eq_foldl]
    rfl
  · simp only [active, entry, Part.loseActive_eq_foldl]
    rfl

/-- The refusal that a SUSPECT or BARRED entry gives. -/
def RosterState.refusal (x : RosterState) : Result := if x = .suspect then .suspect else .barred

theorem RosterState.refusal_body (x : RosterState) : x.refusal.body = [if x = .suspect then 0x11 else 0x12] := by
  unfold RosterState.refusal
  split
  · rfl
  · rfl

theorem Part.letPass_refuses (state : (p.terminal f.sender).state = .suspect ∨ (p.terminal f.sender).state = .barred) :
    p.letPass t f = .refused (p.terminal f.sender).state.refusal (p.hear t f) := by
  unfold Part.letPass
  obtain suspect | barred := state
  · simp only [suspect]
    rfl
  · simp only [barred]
    rfl

theorem Part.secondIdentity_refuses {previous : Tl}
    (state : (p.terminal f.sender).state = .suspect ∨ (p.terminal f.sender).state = .barred) :
    p.secondIdentity t f previous = .refused (p.terminal f.sender).state.refusal (p.hear t f) := by
  unfold Part.secondIdentity
  obtain suspect | barred := state
  · simp only [suspect]
    rfl
  · simp only [barred]
    rfl

/-- A frame of a SUSPECT or BARRED terminal that is not a copy: the entry is updated and the frame refused (R19, R20). -/
theorem Part.rosterStep_refuses (permitted : p.permitted f.sender = true)
    (state : (p.terminal f.sender).state = .suspect ∨ (p.terminal f.sender).state = .barred)
    (different : ∀ h, (p.terminal f.sender).heard = some h →
      h.link ≠ t ∧ (p.now - h.time).toNat ≤ p.venue.duplicateWindow → ¬(h.tag = f.tag ∧ h.kind = f.kind)) :
    p.rosterStep t f = .refused (p.terminal f.sender).state.refusal (p.hear t f) := by
  by_cases window : ∃ h, (p.terminal f.sender).heard = some h ∧
      (h.link ≠ t ∧ (p.now - h.time).toNat ≤ p.venue.duplicateWindow)
  · obtain ⟨h, heard, window⟩ := window
    rw [Part.rosterStep_different permitted heard window (different h heard window), Part.secondIdentity_refuses state]
  · rw [Part.rosterStep_fresh permitted fun h heard w => window ⟨h, heard, w⟩, Part.letPass_refuses state]

end

theorem Part.dropHead_suspected (p : Part) (t : Tl) (f : Frame) (previous : Tl) (l : Link) :
    (p.dropHead l).suspected t f previous = (p.suspected t f previous).dropHead l := by
  rw [Part.suspected, Part.suspected, ← Part.dropHead_notice, ← Part.dropHead_lost]
  rfl

theorem Part.KeepsPlace.suspected {p : Part} {t : Tl} (h : p.KeepsPlace t) (f : Frame) (previous : Tl) :
    (p.suspected t f previous).KeepsPlace t :=
  (Part.KeepsPlace.lost (p := p.setTerminal f.sender _) h 2 _).notice _ _

/-! ### The row that takes the frame (R4, R6) -/

section
variable {s : State} {t : Tl} {f : Frame} {c : Instr} (row : RowOfTerminal c t f) (ready : s.control.startup = .ready)
  (kept : s.kept = none) (head : (s.link (.tl t)).inbound.head? = some f) (room : (s.link (.tl t)).outbound.length < 16)

include row ready kept head room

/-- What the Roster refuses is answered, whichever row takes the frame. -/
theorem exec_rosterRefused {r : Result} {q : Part} (step : (s.taken (.tl t)).rosterStep t f = .refused r q) :
    exec c s = .next (s.become (q.conclude (.tl t) f (.error r))) := by
  obtain ⟨handles, lengthOk, handler, ran, takes⟩ := row
  have frames : s.control.startup.takesFrames = true := by rw [ready]; rfl
  have taken : (s.taken (.tl t)).control.startup = .ready := ready
  rw [ran]
  simp [Part.serveTerminal, Part.takable_of frames kept head (.inr room), takes, Part.handleTerminal, taken, step]

/-- What the Roster discards is not answered. -/
theorem exec_rosterDiscarded {q : Part} (step : (s.taken (.tl t)).rosterStep t f = .discarded q) :
    exec c s = .next (s.become q.releasePlace) := by
  obtain ⟨handles, lengthOk, handler, ran, takes⟩ := row
  have frames : s.control.startup.takesFrames = true := by rw [ready]; rfl
  have taken : (s.taken (.tl t)).control.startup = .ready := ready
  rw [ran]
  simp [Part.serveTerminal, Part.takable_of frames kept head (.inr room), takes, Part.handleTerminal, taken, step]

theorem exec_unpermitted (no : s.permitted f.sender = false) :
    exec c s = .next (s.become (s.answered (.tl t) f [0x10])) := by
  rw [exec_rosterRefused row ready kept head room (Part.rosterStep_unpermitted (p := s.taken (.tl t)) no),
    Part.taken_refused _ kept room]
  rfl

theorem exec_copy {h : Heard} (permitted : s.permitted f.sender = true) (heard : (s.terminal f.sender).heard = some h)
    (window : h.link ≠ t ∧ (s.now - h.time).toNat ≤ s.venue.duplicateWindow) (same : h.tag = f.tag ∧ h.kind = f.kind) :
    exec c s = .next (s.become { s.dropHead (.tl t) with reheard := saturate 65535 s.reheard }) := by
  rw [exec_rosterDiscarded row ready kept head room
    (Part.rosterStep_copy (p := s.taken (.tl t)) permitted heard window same)]
  simp only [Part.releasePlace, Part.taken, ← kept]
  rfl

/-- A second identity is answered SUSPECT, the place for the answer kept while its claims are lost. -/
theorem exec_secondIdentity {h : Heard} (permitted : s.permitted f.sender = true)
    (heard : (s.terminal f.sender).heard = some h)
    (window : h.link ≠ t ∧ (s.now - h.time).toNat ≤ s.venue.duplicateWindow) (other : ¬(h.tag = f.tag ∧ h.kind = f.kind))
    (state : (s.terminal f.sender).state = .unseen ∨ (s.terminal f.sender).state = .active) :
    exec c s = .next (s.become (((s.keeping (.tl t)).suspected t f h.link).concluded (.tl t) f [0x11])) := by
  have step : (s.taken (.tl t)).rosterStep t f
      = .refused .suspect (((s.keeping (.tl t)).suspected t f h.link).dropHead (.tl t)) := by
    rw [Part.rosterStep_different (p := s.taken (.tl t)) permitted heard window other,
      Part.secondIdentity_suspects (p := s.taken (.tl t)) (Part.permitted_range permitted) state, ← Part.dropHead_suspected]
    rfl
  have keeps : ((s.keeping (.tl t)).suspected t f h.link).KeepsPlace t :=
    Part.KeepsPlace.suspected (p := s.keeping (.tl t)) ⟨rfl, room⟩ f h.link
  rw [exec_rosterRefused row ready kept head room step, Part.conclude, Part.reply_dropHead f _ keeps.2]
  rfl

/-- A frame of a SUSPECT or BARRED terminal that is not a copy updates the entry and is refused. -/
theorem exec_suspectOrBarred (permitted : s.permitted f.sender = true)
    (state : (s.terminal f.sender).state = .suspect ∨ (s.terminal f.sender).state = .barred)
    (different : ∀ h, (s.terminal f.sender).heard = some h →
      h.link ≠ t ∧ (s.now - h.time).toNat ≤ s.venue.duplicateWindow → ¬(h.tag = f.tag ∧ h.kind = f.kind)) :
    exec c s = .next (s.become ((s.setTerminal f.sender
      { s.terminal f.sender with heard := some (s.heardAs t f) }).answered (.tl t) f
      [if (s.terminal f.sender).state = .suspect then 0x11 else 0x12])) := by
  have step : (s.taken (.tl t)).rosterStep t f
      = .refused (s.terminal f.sender).state.refusal ((s.hear t f).taken (.tl t)) :=
    Part.rosterStep_refuses (p := s.taken (.tl t)) permitted state different
  rw [exec_rosterRefused row ready kept head room step, Part.taken_refused (p := s.hear t f) _ kept room,
    RosterState.refusal_body]
  rfl

end

/-! ### TERMINAL_CONTROL (R21, R22) -/

section
variable {p : Part} {n : Nat}

theorem Part.controlReset_eq : p.controlReset n = p.setTerminal n { p.terminal n with state := .unseen } := rfl

theorem Part.controlBar_eq : p.controlBar n =
    (if (p.terminal n).state = .unseen ∨ (p.terminal n).state = .active then p.activeClaims n else []).foldl
      (Part.deprived 3) (p.setTerminal n { p.terminal n with state := .barred }) := by
  unfold Part.controlBar
  cases state : (p.terminal n).state with
  | unseen => exact Part.loseActive_eq_foldl _ n 3
  | active => exact Part.loseActive_eq_foldl _ n 3
  | suspect => rfl
  | barred => rfl

theorem Part.controlUnbar_eq : p.controlUnbar n =
    p.setTerminal n { p.terminal n with
      state := if (p.terminal n).state = .barred then .unseen else (p.terminal n).state } := by
  unfold Part.controlUnbar
  cases state : (p.terminal n).state with
  | barred => rfl
  | unseen | active | suspect =>
    have entry : { p.terminal n with state := (p.terminal n).state } = p.terminal n := rfl
    rw [state] at entry
    exact (entry ▸ p.setTerminal_terminal n).symm

end

section
variable (action : Part → Nat → Part) (f : Frame) (p : Part)

theorem terminalControlRequest_done (range : within 1 Config.terminals (f.field 0 2) = true)
    (names : within 1 3 (f.field 2 1) = true) :
    terminalControlRequest action f p = .ok (action p (f.field 0 2),
      some (leBytes 1 (p.terminal (f.field 0 2)).state.code
        ++ leBytes 1 ((action p (f.field 0 2)).terminal (f.field 0 2)).state.code)) := by
  simp only [terminalControlRequest, ensure_pass _ range, ensure_pass _ names]

theorem terminalControlRequest_refused
    (no : within 1 Config.terminals (f.field 0 2) = false ∨ within 1 3 (f.field 2 1) = false) :
    terminalControlRequest action f p = .error .badField := by
  cases range : within 1 Config.terminals (f.field 0 2) with
  | false => simp only [terminalControlRequest, ensure_fail _ range]
  | true =>
    have names : within 1 3 (f.field 2 1) = false := no.resolve_left (by simp [range])
    simp only [terminalControlRequest, ensure_pass _ range, ensure_fail _ names]

end

/-- Where no place was kept before a request, none is kept after its answer. -/
theorem Part.concluded_keeping {q : Part} (kept : q.kept = none) (k l : Link) (f : Frame) (body : List Byte) :
    (q.keeping k).concluded l f body = q.answered l f body := by
  cases q
  cases kept
  rfl

/-- A command is the TERMINAL_CONTROL row that takes the frame, for an action. -/
def ControlsBy (c : Instr) (f : Frame) (action : Part → Nat → Part) : Prop :=
  ∃ (handles lengthOk : Frame → Bool), (∀ s, exec c s
    = .next (s.become (s.toPart.serveOrder handles false lengthOk (terminalControlRequest action)))) ∧
    handles f = true ∧ lengthOk f = true

section
variable {s : State} {f : Frame}

theorem controlsBy_reset (h : s.orderReady 0x39 3 f = true) (bar : fieldAt f.body 2 1 ≠ 2) (unbar : fieldAt f.body 2 1 ≠ 3) :
    ControlsBy .terminalControlReset f Part.controlReset := by
  obtain ⟨_, _, _, _, kind, _, length⟩ := Part.orderReady_iff.mp h
  refine ⟨_, _, fun _ => rfl, ?_, decide_eq_true length⟩
  simp only [Bool.and_eq_true]
  exact ⟨⟨(ofKind_iff _ f).mpr kind, not_ofVariant fun names => bar names.2⟩, not_ofVariant fun names => unbar names.2⟩

theorem controlsBy_bar (h : s.orderReady 0x39 3 f = true) (action : fieldAt f.body 2 1 = 2) :
    ControlsBy .terminalControlBar f Part.controlBar := by
  obtain ⟨_, _, _, _, kind, _, length⟩ := Part.orderReady_iff.mp h
  exact ⟨_, _, fun _ => rfl, (ofVariant_iff _ _ _ _ _ f).mpr ⟨kind, length, action⟩, decide_eq_true length⟩

theorem controlsBy_unbar (h : s.orderReady 0x39 3 f = true) (action : fieldAt f.body 2 1 = 3) :
    ControlsBy .terminalControlUnbar f Part.controlUnbar := by
  obtain ⟨_, _, _, _, kind, _, length⟩ := Part.orderReady_iff.mp h
  exact ⟨_, _, fun _ => rfl, (ofVariant_iff _ _ _ _ _ f).mpr ⟨kind, length, action⟩, decide_eq_true length⟩

variable {c : Instr} {action : Part → Nat → Part} (h : s.orderReady 0x39 3 f = true) (row : ControlsBy c f action)
include h row

theorem exec_control_refused
    (no : within 1 96 (f.field 0 2) = false ∨ within 1 3 (f.field 2 1) = false) :
    exec c s = .next (s.become (s.answered .ol f [0x02])) := by
  obtain ⟨handles, lengthOk, ran, takes, length⟩ := row
  rw [ran, Part.serveOrder_refused h takes length (terminalControlRequest_refused action f _ no)]
  rfl

/-- An action that moves the entry to a state and takes claims away; the reply gives the states before and after. -/
theorem exec_control_done {new : RosterState} {lost : List (Nat × Claim)} (range : within 1 96 (f.field 0 2) = true)
    (names : within 1 3 (f.field 2 1) = true)
    (acts : action (s.taken .ol) (f.field 0 2) = lost.foldl (Part.deprived 3)
      ((s.taken .ol).setTerminal (f.field 0 2) { s.terminal (f.field 0 2) with state := new })) :
    exec c s = .next (s.become ((lost.foldl (Part.deprived 3)
      (s.setTerminal (f.field 0 2) { s.terminal (f.field 0 2) with state := new })).answered .ol f
        ([0] ++ leBytes 1 (s.terminal (f.field 0 2)).state.code ++ leBytes 1 new.code))) := by
  obtain ⟨handles, lengthOk, ran, takes, length⟩ := row
  obtain ⟨_, kept, _, room, _⟩ := Part.orderReady_iff.mp h
  have after : ((action (s.taken .ol) (f.field 0 2)).terminal (f.field 0 2)).state = new := by
    rw [acts, Part.lost_terminal_state, Part.terminal_setTerminal_same _ _ range]
  have late : action (s.taken .ol) (f.field 0 2) = ((lost.foldl (Part.deprived 3)
      (s.setTerminal (f.field 0 2) { s.terminal (f.field 0 2) with state := new })).keeping .ol).dropHead .ol := by
    rw [acts, ← Part.lost_keeping_ol (p := s.setTerminal _ _) kept, ← Part.dropHead_lost]
    rfl
  rw [ran, Part.serveOrder_ready h takes length, terminalControlRequest_done action f _ range names, after, late,
    Part.conclude_ok, Part.reply_dropHead, Part.concluded_keeping]
  · rfl
  · exact (Part.lost_kept 3 _ lost).trans kept
  · exact (congrArg (fun x : LinkState => x.outbound.length < 16) (Part.lost_link_ol 3 _ lost)).mpr room

end

/-! ### The statement (O44) -/

theorem tlNumber_eq (t : Tl) : tlNumber t = match t with | .tl0 => 0 | .tl1 => 1 | .tl2 => 2 | .tl3 => 3 := by
  cases t <;> rfl

theorem suspectFields_eq (f : Frame) (previous arriving : Tl) : suspectFields f previous arriving =
    leBytes 2 f.sender
      ++ leBytes 1 (match previous with | .tl0 => 0 | .tl1 => 1 | .tl2 => 2 | .tl3 => 3)
      ++ leBytes 1 (match arriving with | .tl0 => 0 | .tl1 => 1 | .tl2 => 2 | .tl3 => 3) ++ [f.kind, f.tag] := by
  rw [suspectFields, tlNumber_eq, tlNumber_eq]

/-- Settles O44: by what the Roster makes of the frame, whichever row takes it, and by the action of TERMINAL_CONTROL. -/
theorem terminalsAreControlled : Obligations.TerminalsAreControlled := by
  refine ⟨?_, ?_⟩
  · intro s t f c ready kept head room takes n e heard window code active
    have row := rowOfTerminal takes
    refine ⟨s.permitted_iff n, exec_unpermitted row ready kept head room, fun h permitted last inside tag kind => ?_,
      fun h permitted last inside other state => ?_, fun permitted state different => ?_⟩
    · exact exec_copy row ready kept head room permitted last inside ⟨tag, kind⟩
    · have refused := exec_secondIdentity row ready kept head room permitted last inside
        (fun same => other.elim (· same.1) (· same.2)) state
      rw [Part.suspected, suspectFields_eq] at refused
      exact refused
    · exact exec_suspectOrBarred row ready kept head room permitted state fun h last inside same =>
        (different h last inside).elim (· same.1) (· same.2)
  · intro s f h n action e moves active
    have named : 1 ≤ action → action ≤ 3 → within 1 3 action = true := fun low high => by simp [within, low, high]
    have unnamed : action = 0 ∨ 3 < action → within 1 3 action = false := fun out => by simp [within]; omega
    refine ⟨fun range reset => ?_, fun range bar => ?_, fun range unbar => ?_, fun outside i row => ?_, fun none => ?_⟩
    · exact exec_control_done h (controlsBy_reset h (by omega) (by omega)) (lost := []) range
        (named (by omega) (by omega)) Part.controlReset_eq
    · exact exec_control_done h (controlsBy_bar h bar) range (named (by omega) (by omega)) Part.controlBar_eq
    · exact exec_control_done h (controlsBy_unbar h unbar) (lost := []) range (named (by omega) (by omega))
        Part.controlUnbar_eq
    · obtain ⟨bar, rfl⟩ | ⟨unbar, rfl⟩ | ⟨notBar, notUnbar, rfl⟩ := row
      · exact exec_control_refused h (controlsBy_bar h bar) (.inl outside)
      · exact exec_control_refused h (controlsBy_unbar h unbar) (.inl outside)
      · exact exec_control_refused h (controlsBy_reset h notBar notUnbar) (.inl outside)
    · exact exec_control_refused h (controlsBy_reset h (by omega) (by omega)) (.inr (unnamed none))

end Sys2Proof.Machine
end

section
/-! PROOFS. A terminal's own claims on a check, and RELEASE (O29). -/

namespace Sys2Proof.Machine

/-! ### A terminal's own claims on a check (R93, R97, R100) -/

/-- The part while it handles a terminal request that the Roster has passed (R4, R6, R20). -/
abbrev Part.handed (p : Part) (t : Tl) (f : Frame) : Part := (p.taken (.tl t)).welcomed t f

/-- A claim that stands once a record has been written is the one written, or stood in another record. -/
theorem Part.claimAt_setClaim_cases {p : Part} {i j : Nat} {c : Option Claim} {y : Claim}
    (h : (p.setClaim i c).claimAt j = some y) : (j = i ∧ c = some y) ∨ (j ≠ i ∧ p.claimAt j = some y) := by
  by_cases same : i = j
  · subst same
    exact .inl ⟨rfl, (Part.claimAt_setClaim_same p c (recordAt_lt h)).symm.trans h⟩
  · exact .inr ⟨Ne.symm same, Part.claimAt_setClaim_other p c same ▸ h⟩

/-- The one claim of a terminal on a check that passes a test is the one that a search finds. -/
theorem Part.ownClaims_find_eq {p : Part} {terminal number i : Nat} {x : Claim} {test : Nat × Claim → Bool}
    (claim : p.claimAt i = some x) (holder : x.terminal = terminal) (check : x.check = number) (passes : test (i, x) = true)
    (only : ∀ j y, p.claimAt j = some y → y.terminal = terminal → y.check = number → test (j, y) = true → j = i) :
    (p.ownClaims terminal number).find? test = some (i, x) := by
  have mem : (i, x) ∈ p.ownClaims terminal number := (p.mem_ownClaims _ _ _ _).mpr ⟨claim, check, holder⟩
  cases found : (p.ownClaims terminal number).find? test with
  | none => exact absurd passes (List.find?_eq_none.mp found (i, x) mem)
  | some y =>
    obtain ⟨j, y⟩ := y
    obtain ⟨other, onCheck, own⟩ := (p.mem_ownClaims _ _ _ _).mp (List.mem_of_find?_eq_some found)
    have index := only j y other own onCheck (List.find?_some found)
    subst index
    rw [Option.some.inj (other.symm.trans claim)]

/-- A search finds no claim of a terminal on a check when none passes its test. -/
theorem Part.ownClaims_find_none {p : Part} {terminal number : Nat} {test : Nat × Claim → Bool}
    (none : ∀ j y, p.claimAt j = some y → y.terminal = terminal → y.check = number → test (j, y) = false) :
    (p.ownClaims terminal number).find? test = .none := by
  refine List.find?_eq_none.mpr fun (j, y) mem => ?_
  obtain ⟨claim, check, holder⟩ := (p.mem_ownClaims _ _ _ _).mp mem
  simp [none j y claim holder check]

/-- Where a terminal has no ACTIVE claim on a check, no lease is renewed. -/
theorem Part.renewLeases_of_no_active {p : Part} {terminal number : Nat}
    (none : ∀ j y, p.claimAt j = some y → y.terminal = terminal → y.check = number → y.state ≠ .active) :
    p.renewLeases terminal number = p := by
  have skip : ∀ xs : List (Nat × Claim), (∀ x ∈ xs, x.2.state ≠ .active) → p.renewAll xs = p := by
    intro xs no
    induction xs with
    | nil => rfl
    | cons x rest ih =>
      rw [Part.renewAll, if_neg (no x List.mem_cons_self)]
      exact ih fun y mem => no y (List.mem_cons_of_mem _ mem)
  refine skip _ fun (j, y) mem => ?_
  obtain ⟨claim, check, holder⟩ := (p.mem_ownClaims _ _ _ _).mp mem
  exact none j y claim holder check

/-! ### RELEASE (R25, R99) -/

section
variable {f : Frame} {p : Part} {slot i : Nat} {c : Check} {x : Claim} (low : f.field 2 1 ≤ Config.shareRecords)
  (check : p.findCheck (f.field 0 2) = some (slot, c))
include low check

theorem releaseRequest_active
    (found : (p.ownClaims f.sender (f.field 0 2)).find? (fun y => decide (y.2.scope = scopeOf (f.field 2 1))) = some (i, x))
    (active : x.state = .active) :
    releaseRequest f p = .ok ((p.freeClaim i x).renewLeases f.sender (f.field 0 2),
      some (leBytes 1 (((p.freeClaim i x).renewLeases f.sender (f.field 0 2)).terminal f.sender).claimCount)) := by
  simp only [releaseRequest, ensure_pass _ (decide_eq_true low), orRefuse_some _ check, orRefuse_some _ found,
    ensure_pass _ (decide_eq_true active)]

theorem releaseRequest_pinned
    (found : (p.ownClaims f.sender (f.field 0 2)).find? (fun y => decide (y.2.scope = scopeOf (f.field 2 1))) = some (i, x))
    (pinned : x.state ≠ .active) : releaseRequest f p = .error .busy := by
  simp only [releaseRequest, ensure_pass _ (decide_eq_true low), orRefuse_some _ check, orRefuse_some _ found,
    ensure_fail _ (decide_eq_false pinned)]

theorem releaseRequest_notClaimed
    (none : (p.ownClaims f.sender (f.field 0 2)).find? (fun y => decide (y.2.scope = scopeOf (f.field 2 1))) = .none) :
    releaseRequest f p = .error .notClaimed := by
  simp only [releaseRequest, ensure_pass _ (decide_eq_true low), orRefuse_some _ check, orRefuse_none _ none]

end

/-- A claim count that a freed claim lowers, read back. -/
theorem Part.freeClaim_claimCount (p : Part) (i : Nat) {x : Claim} {n : Nat} (holder : x.terminal = n)
    (range : within 1 96 n = true) :
    ((p.freeClaim i x).terminal n).claimCount = (p.terminal n).claimCount - 1 := by
  subst holder
  rw [Part.freeClaim, Part.countClaim_eq, Part.terminal_setTerminal_same _ _ range]
  rfl

/-- Settles O29, by what a search of the requester's claims on the check finds. -/
theorem releaseFreesTheClaim : Obligations.ReleaseFreesTheClaim := by
  intro s t f slot c ready length check low code p e
  obtain ⟨_, kept, _, _, kind, admitted⟩ := Part.terminalReady_iff.mp ready
  have range := Part.admits_range admitted
  have number : c.number = fieldAt f.body 0 2 := (Part.findCheck_spec check).2
  have takes : ofKind kindRelease f = true := (ofKind_iff _ f).mpr kind
  have lengthOk : f.hasLength 3 = true := decide_eq_true length
  refine ⟨fun i x claim holder onCheck scope only => ?_, fun none => ?_⟩
  · have alone : ∀ j y, s.claimAt j = some y → y.terminal = f.sender → y.check = fieldAt f.body 0 2 → j = i :=
      fun j y other own named => Decidable.byContradiction fun ne => only j y other ne own (named.trans number.symm)
    have found : ((s.handed t f).ownClaims f.sender (f.field 0 2)).find? (fun y => decide (y.2.scope = scopeOf (f.field 2 1)))
        = some (i, x) :=
      Part.ownClaims_find_eq claim holder (onCheck.trans number) (decide_eq_true scope)
        fun j y other own named _ => alone j y other own named
    refine ⟨fun active => ?_, fun pinned => ?_⟩
    · have left : ((s.handed t f).freeClaim i x).renewLeases f.sender (f.field 0 2) = (s.handed t f).freeClaim i x :=
        Part.renewLeases_of_no_active fun j y other own named => by
          obtain ⟨_, freed⟩ | ⟨ne, stood⟩ := Part.claimAt_setClaim_cases (p := s.toPart) (i := i) other
          · cases freed
          · exact absurd (alone j y stood own named) ne
      have count : (((s.handed t f).freeClaim i x).terminal f.sender).claimCount = e.claimCount - 1 :=
        (s.handed t f).freeClaim_claimCount i holder range
      have request := releaseRequest_active (p := s.handed t f) low check found active
      rw [left, count] at request
      have answered := Part.serveTerminal_done (lengthOk := fun f => f.hasLength 3) ready takes lengthOk request rfl
      have same : { (s.handed t f).freeClaim i x with links := s.links, kept := none } = p.freeClaim i x := by
        rw [← kept]
        rfl
      rw [same, Part.freeClaim, holder] at answered
      exact congrArg (fun r => Host.Outcome.next (s.become r)) answered
    · have request := releaseRequest_pinned (p := s.handed t f) low check found (by simp [pinned])
      exact congrArg (fun r => Host.Outcome.next (s.become r))
        (Part.serveTerminal_refused (lengthOk := fun f => f.hasLength 3) ready takes lengthOk request)
  · have request := releaseRequest_notClaimed (p := s.handed t f) low check (Part.ownClaims_find_none
      fun j y claim holder named => decide_eq_false (none j y claim holder (named.trans number.symm)))
    exact congrArg (fun r => Host.Outcome.next (s.become r))
      (Part.serveTerminal_refused (lengthOk := fun f => f.hasLength 3) ready takes lengthOk request)

end Sys2Proof.Machine
end

section
/-! PROOFS. PAY_CARD while AL is SETTLING or UP (O37). -/

namespace Sys2Proof.Machine

/-! ### The checks of PAY_CARD (R110) -/

/-- The checks that PAY_CARD and PAY_CASH share, when they all pass. -/
theorem Part.payTarget_found {p : Part} {f : Frame} {slot : Nat} {c : Check} (may : p.mayTender f.sender = true)
    (check : p.findCheck (f.field 0 2) = some (slot, c)) (covers : p.holdsCover f.sender c.number (f.field 2 1) = true)
    (index : within 1 c.plan.count (f.field 2 1) = true) (revision : f.field 3 2 = (c.share (f.field 2 1)).revision.toNat)
    (owes : (c.share (f.field 2 1)).paid = false) : p.payTarget f = .ok (slot, c) := by
  rw [(Part.findCheck_spec check).2] at covers
  simp only [Part.payTarget, ensure_pass _ may, orRefuse_some _ check, ensure_pass _ covers, ensure_pass _ index,
    ensure_pass _ (decide_eq_true revision), ensure_pass _ (congrArg (fun b => !b) owes)]

/-- A PAY_CARD that meets R110 is carried out; online it still needs a FREE entry. -/
theorem payCardRequest_payable {p : Part} {f : Frame} {slot : Nat} {c : Check} {k tip : Nat}
    (h : p.cardPayable f slot c k tip) : payCardRequest f p =
      if p.alState = .down then .ok (p.payOffline f slot c tip)
      else (ensure p.entryFree .busyAuth >>= fun _ => .ok (p.payOnline f slot c tip, none)) := by
  unfold Part.cardPayable at h
  simp only [← Frame.field_eq] at h
  obtain ⟨_, _, noFlight, noHeld, check, rfl, covers, low, high, revision, owes, positive, most, token, form, value, flag,
    suffix, rfl, ceiling, limit, room, pool⟩ := h
  have target : p.payTarget f = .ok (slot, c) := by
    refine Part.payTarget_found ?_ check covers ?_ revision (decide_eq_false owes)
    · simp [Part.mayTender, noFlight, noHeld]
    · simp [within, low, high]
  have fields : f.cardFieldsOk = true := by
    have most : f.field 10 4 ≤ if f.field 9 1 = 0 then 99999999 else 100000 := value
    have formed : (if f.field 9 1 = 0 then decide (f.field 10 4 ≤ Config.amountMax) else decide (f.field 10 4 ≤ 100000))
        = true := by
      split at most
      · next zero => exact (if_pos zero).trans (decide_eq_true most)
      · next other => exact (if_neg other).trans (decide_eq_true most)
    simp only [Frame.cardFieldsOk, formed, token, form, flag, suffix, decide_true, Bool.and_true]
  have records : p.tenderRoom c = true := by
    simp [Part.tenderRoom, Config.tendersPerCheck, Config.tenderPool, room, pool]
  rw [payCardRequest, target]
  refine Eq.trans (ensure_pass _ (decide_eq_true (Nat.ne_of_gt positive)) _) ?_
  simp only [ensure_pass _ (decide_eq_true most), ensure_pass _ fields, ensure_pass _ ceiling,
    ensure_pass _ (decide_eq_true (p := _ ≤ Config.amountMax) limit), ensure_pass _ records]

/-- What R110 asks of a PAY_CARD does not depend on what the Roster writes when it passes the frame. -/
theorem Part.cardPayable_handed {p : Part} {t : Tl} {f : Frame} {slot : Nat} {c : Check} {k tip : Nat}
    (range : within 1 96 f.sender = true) (h : p.cardPayable f slot c k tip) : (p.handed t f).cardPayable f slot c k tip := by
  obtain ⟨length, token, noFlight, noHeld, rest⟩ := h
  have entry : (p.handed t f).terminal f.sender = _ := Part.terminal_setTerminal_same _ _ range
  exact ⟨length, token, entry ▸ noFlight, entry ▸ noHeld, rest⟩

/-! ### Into flight (R23, R100, R107, R111, R128) -/

/-- The claim that covers the share is PINNED and loses its lease; the terminal's only claim on the check, it leaves no lease
to renew (R100, R111). -/
theorem Part.enterFlight_eq {p : Part} {terminal number k i : Nat} {x : Claim} (claim : p.claimAt i = some x)
    (holder : x.terminal = terminal) (check : x.check = number) (covers : p.holdsCover terminal number k = true)
    (only : ∀ j y, p.claimAt j = some y → y.terminal = terminal → y.check = number → j = i) :
    p.enterFlight terminal number k =
      ((p.setTerminal terminal { p.terminal terminal with inFlight := true }).cancel (.claimLease i)).setClaim i
        (some { x with state := .pinned }) := by
  have found : (p.ownClaims terminal number).find? (fun y => y.2.scope.covers k) = some (i, x) := by
    obtain ⟨⟨j, y⟩, mem, covers⟩ := List.any_eq_true.mp covers
    obtain ⟨other, named, own⟩ := (p.mem_ownClaims _ _ _ _).mp mem
    have index := only j y other own named
    subst index
    cases Option.some.inj (other.symm.trans claim)
    exact Part.ownClaims_find_eq claim holder check covers fun j y other own named _ => only j y other own named
  have pinned : (p.setInFlight terminal true).pin terminal number k =
      ((p.setTerminal terminal { p.terminal terminal with inFlight := true }).cancel (.claimLease i)).setClaim i
        (some { x with state := .pinned }) := by
    have flagged : ((p.setInFlight terminal true).ownClaims terminal number).find? (fun y => y.2.scope.covers k)
      = some (i, x) := found
    simp only [Part.pin, flagged]
    rfl
  rw [Part.enterFlight, pinned]
  refine Part.renewLeases_of_no_active fun j y other own named => ?_
  obtain ⟨_, written⟩ | ⟨ne, stood⟩ := Part.claimAt_setClaim_cases other
  · cases written
    nofun
  · exact absurd (only j y stood own named) ne

theorem Part.payOnline_eq {p : Part} {f : Frame} {slot : Nat} {c : Check} {tip i e : Nat} {x : Claim} {rest : List Nat}
    (claim : p.claimAt i = some x)
    (holder : x.terminal = f.sender) (check : x.check = c.number)
    (covers : p.holdsCover f.sender c.number (f.field 2 1) = true)
    (only : ∀ j y, p.claimAt j = some y → y.terminal = f.sender → y.check = c.number → j = i)
    (free : p.freeList = e :: rest) :
    p.payOnline f slot c tip = { p with
      roster := (p.setTerminal f.sender { p.terminal f.sender with inFlight := true }).roster
      checks := p.checks.setIfInBounds slot (some (c.appendTender (cardTender f c tip .authorizing)))
      claims := p.claims.setIfInBounds i (some { x with state := .pinned })
      entries := p.entries.setIfInBounds e { p.entryCell e with
        use := some (liveEntry f slot c (cardTender f c tip .authorizing)) }
      freeList := rest
      sendQueue := p.sendQueue ++ [e]
      clockUnit := { p.clockUnit with
        deadlines :=
          (placeDeadline { due := p.now + p.authTime, owner := p.entryOwner e } p.clockUnit.deadlines).filter
            fun y => decide (y.owner ≠ .claimLease i) } } := by
  have taken := Part.takeEntry_cons (p.setCheck slot (some (c.appendTender (cardTender f c tip .authorizing))))
    (liveEntry f slot c (cardTender f c tip .authorizing)) p.authTime free
  have queued : (liveEntry f slot c (cardTender f c tip .authorizing)).state = .queued := rfl
  rw [if_pos queued] at taken
  rw [Part.payOnline]
  dsimp only
  rw [taken]
  exact Part.enterFlight_eq claim holder check covers only

/-- Settles O37. -/
theorem cardsGoInFlight : Obligations.CardsGoInFlight := by
  intro s t f slot c k tip i x e rest ready payable up free inside claim holder check only p amount tender entry
  obtain ⟨_, kept, _, _, kind, admitted⟩ := Part.terminalReady_iff.mp ready
  have range := Part.admits_range admitted
  have takes : ofKind kindPayCard f = true := (ofKind_iff _ f).mpr kind
  have handed := Part.cardPayable_handed (t := t) range payable
  obtain ⟨longEnough, length, _, _, _, share, covers, _⟩ := payable
  subst share
  have lengthOk : f.payCardLength = true := by simp [Frame.payCardLength, Frame.field, longEnough, ← length]
  have request : payCardRequest f (s.handed t f) = .ok ((s.handed t f).payOnline f slot c tip, none) := by
    rw [payCardRequest_payable handed, if_neg (show (s.handed t f).alState ≠ .down from up)]
    exact ensure_pass _ (by simp [Part.entryFree, show (s.handed t f).freeList = e :: rest from free]) _
  have alone : ∀ j y, s.claimAt j = some y → y.terminal = f.sender → y.check = c.number → j = i :=
    fun j y other own named => Decidable.byContradiction fun ne => only j y other ne named own
  have served := Part.serveTerminal_ready ready takes lengthOk (handler := payCardRequest)
  rw [request, Part.conclude, Part.payOnline_eq (p := s.handed t f) claim holder check covers alone free] at served
  refine congrArg (fun r => Host.Outcome.next (s.become r)) (served.trans ?_)
  rw [Part.releasePlace, ← kept]
  rfl

end Sys2Proof.Machine
end

section
/-! PROOFS. A card tender leaves flight (R116), and AUTH_REPLY in time (O52). -/

namespace Sys2Proof.Machine

/-! ### SHARE_CHANGED (R65, R66) -/

theorem Scope.covers_eq (x : Scope) (k : Nat) : x.covers k = match x with | .whole => true | .share i => decide (i = k) := by
  cases x <;> rfl

/-- A terminal's cover of a share, read off the claims on the check. -/
theorem Part.holdsCover_eq (p : Part) (n number k : Nat) : p.holdsCover n number k =
    (((inUse p.claims).filter fun x => decide (x.2.check = number)).map fun x => x.2).any fun x =>
      decide (x.terminal = n) && match x.scope with | .whole => true | .share i => decide (i = k) := by
  rw [List.any_map, Part.holdsCover, Part.ownClaims, List.any_filter]
  simp only [Scope.covers_eq]
  rfl

/-- The holders are told one after another, each of what it holds: no advisory changes a claim. -/
theorem Part.adviseHolders_eq_foldl (p : Part) (c : Check) (cause : Nat) (changed holders : List Nat) :
    p.adviseHolders c cause changed holders = holders.foldl (fun q n =>
      if (changed.filter fun k => p.holdsCover n c.number k) = [] then q
      else q.told n kindShareChanged (shareChangedBody c cause (changed.filter fun k => p.holdsCover n c.number k))) p := by
  have any : ∀ q : Part, q.claims = p.claims → q.adviseHolders c cause changed holders = holders.foldl (fun q n =>
      if (changed.filter fun k => p.holdsCover n c.number k) = [] then q
      else q.told n kindShareChanged (shareChangedBody c cause (changed.filter fun k => p.holdsCover n c.number k))) q := by
    induction holders with
    | nil => exact fun _ _ => rfl
    | cons n rest ih =>
      intro q same
      have held : ∀ k, q.holdsCover n c.number k = p.holdsCover n c.number k := fun k => by
        rw [Part.holdsCover_eq, Part.holdsCover_eq, same]
      simp only [Part.adviseHolders, held, List.isEmpty_iff, Part.advise_eq_told, List.foldl_cons]
      refine ih _ ?_
      split
      · exact same
      · exact (q.told_claims _ _ _).trans same
  exact any p rfl

theorem Part.shareChanged_eq_sharesTold (p : Part) (c : Check) (cause : Nat) (changed : List Nat) (attributed : Option Nat) :
    p.shareChanged c cause changed attributed = p.sharesTold c cause changed attributed := by
  rw [Part.shareChanged, Part.adviseHolders_eq_foldl, Part.sharesTold]
  simp only [Part.holdsCover_eq, List.map_map, ne_comm (b := attributed)]
  rfl

/-- What every advisory leaves, SHARE_CHANGED leaves. -/
theorem Part.sharesTold_leaves {α : Type} (reads : Part → α)
    (leaves : ∀ (q : Part) (n : Nat) (kind : Byte) (body : List Byte), reads (q.told n kind body) = reads q)
    (p : Part) (c : Check) (cause : Nat) (changed : List Nat) (attributed : Option Nat) :
    reads (p.sharesTold c cause changed attributed) = reads p := by
  have each : ∀ (holders : List Nat) (q : Part), reads (q.adviseHolders c cause changed holders) = reads q := by
    intro holders
    induction holders with
    | nil => exact fun _ => rfl
    | cons n rest ih =>
      intro q
      rw [Part.adviseHolders, ih]
      split
      · rfl
      · rw [Part.advise_eq_told, leaves]
  rw [← Part.shareChanged_eq_sharesTold]
  exact each _ p

/-! ### What the evaluation leaves (R43) -/

/-- The check as an evaluation leaves it: its state and its settlement stamp alone may be others. -/
def Check.restated (c : Check) (state : CheckState) (settledAt : Option Time) : Check :=
  { c with state := state, settledAt := settledAt }

/-- An evaluation changes nothing, or restates the check in its slot, and may produce a notice. -/
theorem Part.evaluate_cases (p : Part) (slot : Nat) :
    p.evaluate slot = p ∨ ∃ c state at_, p.checkAt slot = some c ∧
      (p.evaluate slot = p.setCheck slot (some (c.restated state at_)) ∨
        ∃ fields, p.evaluate slot = (p.setCheck slot (some (c.restated state at_))).notice 1 fields) := by
  unfold Part.evaluate
  split
  · exact .inl rfl
  · next c check =>
    split
    · split
      · exact .inr ⟨c, .settled, some p.now, check, .inr ⟨_, rfl⟩⟩
      · exact .inl rfl
    · split
      · exact .inl rfl
      · exact .inr ⟨c, .settling, none, check, .inl rfl⟩
    · exact .inl rfl
    · exact .inl rfl

@[simp] theorem Part.evaluate_claims (p : Part) (slot : Nat) : (p.evaluate slot).claims = p.claims := by
  obtain e | ⟨c, state, at_, _, e | ⟨fields, e⟩⟩ := p.evaluate_cases slot
  · rw [e]
  · rw [e]
    rfl
  · rw [e, Part.notice_claims]
    rfl

@[simp] theorem Part.evaluate_roster (p : Part) (slot : Nat) : (p.evaluate slot).roster = p.roster := by
  obtain e | ⟨c, state, at_, _, e | ⟨fields, e⟩⟩ := p.evaluate_cases slot
  · rw [e]
  · rw [e]
    rfl
  · rw [e, Part.notice_roster]
    rfl

theorem Part.evaluate_checkAt {p : Part} {slot : Nat} {c : Check} (check : p.checkAt slot = some c) :
    ∃ state at_, (p.evaluate slot).checkAt slot = some (c.restated state at_) := by
  obtain e | ⟨d, state, at_, same, e⟩ := p.evaluate_cases slot
  · exact ⟨c.state, c.settledAt, by rw [e, check]; rfl⟩
  · cases Option.some.inj (same.symm.trans check)
    refine ⟨state, at_, ?_⟩
    have written := p.checkAt_setCheck_same (some (c.restated state at_)) (Part.checkAt_lt check)
    obtain e | ⟨fields, e⟩ := e
    · rw [e, written]
    · rw [e, Part.checkAt, Part.notice_checks]
      exact written

/-! ### A tender in the list (R108) -/

theorem Check.tender_updateTender {c : Check} {id : Nat} {y : Tender} {g : Tender → Tender} (tender : c.tender id = some y)
    (keeps : ∀ w, (g w).id = w.id) : (c.updateTender id g).tender id = some (g y) := by
  have named : (fun w : Tender => (if w.id = id then g w else w).id == id) = fun w => w.id == id := by
    funext w
    split
    · rw [keeps]
    · rfl
  have is : y.id = id := by simpa using List.find?_some tender
  rw [Check.tender, Check.updateTender, List.find?_map]
  rw [Function.comp_def, named, show c.tenders.find? _ = some y from tender]
  simp [is]

/-- The check with the state of its tender replaced. -/
def Check.movedTender (c : Check) (y : Tender) (state : TenderState) : Check :=
  c.updateTender y.id fun w => { w with state := state }

theorem Check.movedTender_tender {c : Check} {y : Tender} (tender : c.tender y.id = some y) (state : TenderState) :
    (c.movedTender y state).tender y.id = some { y with state := state } :=
  Check.tender_updateTender tender fun _ => rfl

/-- A check once its tender is accepted (R42, R63). -/
theorem Check.entered_eq (c : Check) (y : Tender) (state : TenderState) (now : Time) : c.entered y state now =
    let b := (c.movedTender y state).anchor now
    b.setShare y.share ((b.share y.share).enter { y with state := state }) := by
  unfold Check.entered Check.anchor
  by_cases anchored : c.anchored = true
  · have same : (c.movedTender y state).anchored = true := anchored
    simp only [anchored, same, if_true]
    rfl
  · have same : ¬(c.movedTender y state).anchored = true := anchored
    simp only [anchored, same]
    rfl

/-! ### The claim that a tender pinned (R101) -/

/-- A PINNED claim once its tender has left flight, by the holder's roster state. -/
def Part.unpinned (p : Part) (holder : RosterState) (i : Nat) (z : Claim) : Part :=
  match holder with
  | .unseen | .active =>
    (p.setClaim i (some { z with state := .active })).rearm (.claimLease i) (seconds p.venue.claimLease)
  | .suspect => p.deprived 2 (i, z)
  | .barred => p.deprived 3 (i, z)

theorem Part.unpin_eq_unpinned {p : Part} {terminal number i : Nat} {z : Claim} (claim : p.claimAt i = some z)
    (holder : z.terminal = terminal) (check : z.check = number) (pinned : z.state = .pinned)
    (only : ∀ j w, p.claimAt j = some w → w.terminal = terminal → w.check = number → w.state = .pinned → j = i) :
    p.unpin terminal number = p.unpinned (p.terminal terminal).state i z := by
  have found : (p.ownClaims terminal number).find? (fun x => decide (x.2.state = .pinned)) = some (i, z) :=
    Part.ownClaims_find_eq claim holder check (decide_eq_true pinned)
      fun j w other own named passes => only j w other own named (of_decide_eq_true passes)
  unfold Part.unpin
  rw [found]
  cases state : (p.terminal terminal).state with
  | unseen => rfl
  | active => rfl
  | suspect => exact p.loseClaim_eq_deprived i z causeSuspect
  | barred => exact p.loseClaim_eq_deprived i z causeBarred

theorem Part.unpinned_checks (p : Part) (holder : RosterState) (i : Nat) (z : Claim) :
    (p.unpinned holder i z).checks = p.checks := by
  cases holder with
  | unseen => rfl
  | active => rfl
  | suspect => exact p.deprived_checks 2 (i, z)
  | barred => exact p.deprived_checks 3 (i, z)

/-! ### The outcome (R113) -/

/-- The state of a card tender that has left flight at its answer or timeout (R114). -/
def TenderState.IsOutcome : TenderState → Prop
  | .approved _ | .deferred _ | .declined _ | .failed => True
  | _ => False

/-- The outcome of a tender of check `number` on share `x`, with the code of the check state that stands then. -/
def outcomeOf (number : Nat) (x : Share) (y : Tender) (state : TenderState) (checkState : Nat) : Frame where
  kind := 0x01
  tag := y.requestTag
  terminal := BitVec.ofNat 16 y.terminal
  body := leBytes 1 0 ++ leBytes 2 number ++ leBytes 1 y.id
    ++ leBytes 1 (match state with | .approved _ => 2 | .deferred _ => 3 | .declined _ => 4 | _ => 5)
    ++ leBytes 1 y.share ++ leBytes 4 y.amount ++ leBytes 4 y.payment.tip
    ++ (match state with | .approved code => code | _ => [0, 0, 0, 0, 0, 0])
    ++ leBytes 1 (match state with | .declined reason => reason | _ => 0)
    ++ leSigned 4 x.remaining ++ leBytes 2 x.revision.toNat ++ leBytes 1 checkState

theorem outcomeFrame_eq {state : TenderState} (outcome : state.IsOutcome) (d : Check) (y : Tender) (new : CheckState)
    (settledAt : Option Time) :
    outcomeFrame (d.restated new settledAt) { y with state := state }
      = outcomeOf d.number (d.share y.share) y state new.code := by
  have body : leBytes 1 0 ++ outcomeFields (d.restated new settledAt) { y with state := state }
      = (outcomeOf d.number (d.share y.share) y state new.code).body := by
    simp only [outcomeFields, outcomeOf, ← List.append_assoc]
    cases state with
    | approved code => rfl
    | deferred slot => rfl
    | declined reason => rfl
    | failed => rfl
    | _ => exact outcome.elim
  rw [outcomeFrame, body]
  rfl

/-- The end of a flight (R116): the claim is unpinned, the evaluation runs, and the outcome is sent with the figures of `d`. -/
def Part.flightEnded (p : Part) (slot : Nat) (d : Check) (y : Tender) (state : TenderState) (holder : RosterState) (i : Nat)
    (z : Claim) : Part :=
  ((p.unpinned holder i z).evaluate slot).lateSent y.terminal (outcomeOf d.number (d.share y.share) y state
    ((((p.unpinned holder i z).evaluate slot).checkAt slot).elim 0 fun b => b.state.code))

theorem Part.sendOutcome_eq {p : Part} {slot : Nat} {d : Check} {y : Tender} {state : TenderState} (outcome : state.IsOutcome)
    (check : ∃ new settledAt, p.checkAt slot = some (d.restated new settledAt))
    (tender : d.tender y.id = some { y with state := state }) :
    p.sendOutcome slot y.id = p.lateSent y.terminal (outcomeOf d.number (d.share y.share) y state
      ((p.checkAt slot).elim 0 fun b => b.state.code)) := by
  obtain ⟨new, settledAt, check⟩ := check
  have found : (d.restated new settledAt).tender y.id = some { y with state := state } := tender
  rw [← Part.lateReply_eq_lateSent]
  simp only [Part.sendOutcome, check, found, outcomeFrame_eq outcome]
  rfl

/-- The steps of R116 from the unpinning on, the claims being still those of `p`. -/
theorem Part.flightEnded_eq {p q : Part} {slot i : Nat} {c d : Check} {y : Tender} {state : TenderState} {z : Claim}
    (claims : q.claims = p.claims)
    (outcome : state.IsOutcome) (check : ∃ new settledAt, q.checkAt slot = some (d.restated new settledAt))
    (tender : d.tender y.id = some { y with state := state }) (claim : p.claimAt i = some z) (holder : z.terminal = y.terminal)
    (onCheck : z.check = c.number) (pinned : z.state = .pinned)
    (only : ∀ j w, p.claimAt j = some w → w.terminal = y.terminal → w.check = c.number → w.state = .pinned → j = i) :
    ((q.unpin y.terminal c.number).evaluate slot).sendOutcome slot y.id
      = q.flightEnded slot d y state (q.terminal y.terminal).state i z := by
  have reads : ∀ j, q.claimAt j = p.claimAt j := fun j => congrArg (fun v => recordAt v j) claims
  obtain ⟨new, settledAt, check⟩ := check
  have stands : (q.unpinned (q.terminal y.terminal).state i z).checkAt slot = some (d.restated new settledAt) := by
    rw [Part.checkAt, Part.unpinned_checks]
    exact check
  obtain ⟨last, stamp, evaluated⟩ := Part.evaluate_checkAt stands
  rw [Part.unpin_eq_unpinned ((reads i).trans claim) holder onCheck pinned fun j w other => only j w (reads j ▸ other),
    Part.flightEnded]
  exact Part.sendOutcome_eq outcome ⟨last, stamp, evaluated⟩ tender

/-! ### Leaving flight (R116) -/

/-- The part once a tender has left flight: the check in its slot is `d`, and the terminal's in-flight flag is clear (R23). -/
def Part.landed (p : Part) (slot : Nat) (d : Check) (n : Nat) : Part :=
  (p.setCheck slot (some d)).setTerminal n { p.terminal n with inFlight := false }

/-- The in-flight flag apart, the terminal's entry is as it was. -/
theorem Part.landed_terminal_state (p : Part) (slot : Nat) (d : Check) (n : Nat) :
    ((p.landed slot d n).terminal n).state = (p.terminal n).state := by
  obtain ⟨_, written⟩ | other := Part.terminal_setTerminal_cases (p.setCheck slot (some d)) n n
    { p.terminal n with inFlight := false }
  · rw [Part.landed, written]
  · rw [Part.landed, other]
    rfl

theorem Check.entered_number (c : Check) (y : Tender) (state : TenderState) (now : Time) :
    (c.entered y state now).number = c.number := by
  unfold Check.entered Check.setShare
  split
  · split
    · rfl
    · rfl
  · split
    · rfl
    · rfl

theorem Check.entered_tender {c : Check} {y : Tender} (tender : c.tender y.id = some y) (state : TenderState) (now : Time) :
    (c.entered y state now).tender y.id = some { y with state := state } := by
  have list : (c.entered y state now).tenders = (c.movedTender y state).tenders := by
    unfold Check.entered Check.setShare
    split
    · split
      · rfl
      · rfl
    · split
      · rfl
      · rfl
  rw [Check.tender, list]
  exact Check.movedTender_tender tender state

/-- The part once an accepted tender's money has entered its share and the other holders have been told (R42, R117). -/
def Part.paidIn (p : Part) (slot : Nat) (c : Check) (y : Tender) (state : TenderState) : Part :=
  ((p.landed slot (c.entered y state p.now) y.terminal).evaluate slot).sharesTold (c.entered y state p.now) 3 [y.share]
    (some y.terminal)

section
variable (p : Part) (slot : Nat) (c : Check) (y : Tender) (state : TenderState)

theorem Part.paidIn_claims : (p.paidIn slot c y state).claims = p.claims := by
  rw [Part.paidIn, Part.sharesTold_leaves Part.claims Part.told_claims, Part.evaluate_claims]
  rfl

theorem Part.paidIn_checks :
    (p.paidIn slot c y state).checks = ((p.landed slot (c.entered y state p.now) y.terminal).evaluate slot).checks :=
  Part.sharesTold_leaves Part.checks Part.told_checks _ _ _ _ _

theorem Part.paidIn_terminal_state : ((p.paidIn slot c y state).terminal y.terminal).state = (p.terminal y.terminal).state := by
  have roster : (p.paidIn slot c y state).roster = (p.landed slot (c.entered y state p.now) y.terminal).roster := by
    rw [Part.paidIn, Part.sharesTold_leaves Part.roster Part.told_roster, Part.evaluate_roster]
  rw [← p.landed_terminal_state slot (c.entered y state p.now) y.terminal, Part.terminal, roster]
  rfl

end

section
variable {state : TenderState} (outcome : state.IsOutcome) (p : Part) (slot i : Nat) (c : Check) (y : Tender) (z : Claim)
include outcome

theorem Part.outOfFlight_accepted (accepted : state.accepted = true) : p.outOfFlight slot c y state i z =
    (p.paidIn slot c y state).flightEnded slot (c.entered y state p.now) y state (p.terminal y.terminal).state i z := by
  unfold Part.outOfFlight Part.flightEnded
  rw [c.entered_number y state p.now]
  cases state with
  | approved code => rfl
  | deferred slot => rfl
  | declined reason => cases accepted
  | failed => cases accepted
  | _ => exact outcome.elim

theorem Part.outOfFlight_refused (refused : state.accepted = false) : p.outOfFlight slot c y state i z =
    (p.landed slot (c.movedTender y state) y.terminal).flightEnded slot
      (c.movedTender y state) y state (p.terminal y.terminal).state i z := by
  cases state with
  | approved code => cases refused
  | deferred slot => cases refused
  | declined reason => rfl
  | failed => rfl
  | _ => exact outcome.elim

end

section
variable {p : Part} {slot i : Nat} {c : Check} {y : Tender} {state : TenderState} {z : Claim}
  (check : p.checkAt slot = some c) (tender : c.tender y.id = some y) (outcome : state.IsOutcome)
  (claim : p.claimAt i = some z) (holder : z.terminal = y.terminal) (onCheck : z.check = c.number) (pinned : z.state = .pinned)
  (only : ∀ j w, p.claimAt j = some w → w.terminal = y.terminal → w.check = c.number → w.state = .pinned → j = i)

include check tender

/-- The steps of R116, the tender's state and the flag written. -/
theorem Part.leaveFlight_landed (state : TenderState) : p.leaveFlight slot y.id state =
    (((if state.accepted
        then (p.landed slot (c.movedTender y state) y.terminal).accept slot y.id (some y.terminal)
        else p.landed slot (c.movedTender y state) y.terminal).unpin y.terminal
      c.number).evaluate slot).sendOutcome slot y.id := by
  have landed : (p.setTenderState slot y.id state).setInFlight y.terminal false
      = p.landed slot (c.movedTender y state) y.terminal := by
    simp only [Part.setTenderState, check]
    rfl
  simp only [Part.leaveFlight, check, tender, landed]

/-- Acceptance, the tender's state and the flag written (R42, R117). -/
theorem Part.accept_landed (state : TenderState) :
    (p.landed slot (c.movedTender y state) y.terminal).accept slot y.id (some y.terminal)
      = p.paidIn slot c y state := by
  have written : (p.landed slot (c.movedTender y state) y.terminal).checkAt slot
      = some (c.movedTender y state) :=
    p.checkAt_setCheck_same _ (Part.checkAt_lt check)
  have found := Check.movedTender_tender tender state
  have again : ∀ d e, (p.landed slot d y.terminal).setCheck slot (some e) = p.landed slot e y.terminal := by
    intro d e
    exact congrArg (fun q : Part => q.setTerminal y.terminal { p.terminal y.terminal with inFlight := false })
      (p.setCheck_setCheck slot (some d) (some e))
  simp only [Part.paidIn, Part.accept, written, found, again, Part.shareChanged_eq_sharesTold, Check.entered_eq]
  rfl

include outcome claim holder onCheck pinned only

/-- Leaving flight is what the statements say of it. -/
theorem Part.leaveFlight_eq_outOfFlight : p.leaveFlight slot y.id state = p.outOfFlight slot c y state i z := by
  have written : ∀ d, (p.landed slot d y.terminal).checkAt slot = some d :=
    fun d => p.checkAt_setCheck_same _ (Part.checkAt_lt check)
  rw [Part.leaveFlight_landed check tender]
  by_cases accepted : state.accepted = true
  · have stands : ∃ new stamp,
        (p.paidIn slot c y state).checkAt slot = some ((c.entered y state p.now).restated new stamp) := by
      obtain ⟨new, stamp, evaluated⟩ := Part.evaluate_checkAt (written (c.entered y state p.now))
      exact ⟨new, stamp, (congrArg (fun v => recordAt v slot) (p.paidIn_checks slot c y state)).trans evaluated⟩
    rw [if_pos accepted, Part.accept_landed check tender, Part.outOfFlight_accepted outcome p slot i c y z accepted,
      Part.flightEnded_eq (p.paidIn_claims slot c y state) outcome stands
        (Check.entered_tender tender state p.now) claim holder onCheck pinned only,
      Part.paidIn_terminal_state]
  · have refused : state.accepted = false := Bool.eq_false_iff.mpr accepted
    rw [if_neg accepted, Part.outOfFlight_refused outcome p slot i c y z refused,
      Part.flightEnded_eq (q := p.landed slot (c.movedTender y state) y.terminal) rfl outcome
        ⟨c.state, c.settledAt, written (c.movedTender y state)⟩ (Check.movedTender_tender tender state) claim holder onCheck
        pinned only,
      Part.landed_terminal_state]

end

/-! ### AUTH_REPLY in time (R129, R131, R139) -/

theorem Part.alHeard_eq_alMoved (p : Part) : p.alHeard = p.alMoved := by
  unfold Part.alHeard Part.alMoved
  cases state : p.alState with
  | settling => rfl
  | up => rfl
  | down =>
    have change : ∀ (q : Part) (new : AlState), q.alState = .down →
        q.changeAl new causeFirstFrame = Part.notice { q with alState := new } 5 (leBytes 1 new.code ++ [0, 1]) := by
      intro q new down
      rw [Part.changeAl, down]
      rfl
    dsimp only
    split
    · exact change _ .up state
    · exact change _ .settling state

/-- A valid frame moves the link and its timers, and leaves the tables that an answer reads. -/
theorem Part.alMoved_leaves {α : Type} (reads : Part → α)
    (notice : ∀ (q : Part) (kind : Nat) (fields : List Byte), reads (q.notice kind fields) = reads q)
    (link : ∀ (q : Part) (x : AlState), reads { q with alState := x } = reads q)
    (arm : ∀ (q : Part) (owner : Owner) (interval : Time), reads (q.arm owner interval) = reads q)
    (cancel : ∀ (q : Part) (owner : Owner), reads (q.cancel owner) = reads q) (p : Part) :
    reads p.alMoved = reads p := by
  unfold Part.alMoved
  dsimp only
  split
  · exact (arm _ _ _).trans (cancel _ _)
  · exact (arm _ _ _).trans (cancel _ _)
  · split
    · rw [notice, link, arm]
    · rw [notice, link, arm, arm]

@[simp] theorem Part.alMoved_entryCell (p : Part) (j : Nat) : p.alMoved.entryCell j = p.entryCell j :=
  Part.alMoved_leaves (fun q => q.entryCell j) (fun q _ _ => by simp [Part.entryCell]) (fun _ _ => rfl) (fun _ _ _ => rfl)
    (fun _ _ => rfl) p

@[simp] theorem Part.alMoved_checkAt (p : Part) (j : Nat) : p.alMoved.checkAt j = p.checkAt j :=
  Part.alMoved_leaves (fun q => q.checkAt j) (fun q _ _ => by simp [Part.checkAt]) (fun _ _ => rfl) (fun _ _ _ => rfl)
    (fun _ _ => rfl) p

@[simp] theorem Part.alMoved_claimAt (p : Part) (j : Nat) : p.alMoved.claimAt j = p.claimAt j :=
  Part.alMoved_leaves (fun q => q.claimAt j) (fun q _ _ => by simp [Part.claimAt]) (fun _ _ => rfl) (fun _ _ _ => rfl)
    (fun _ _ => rfl) p

/-- An answer that matches an entry is handed to it (R129). -/
theorem Part.answer_matched {p : Part} {f : Frame} {fits : Entry → Bool} {x : Entry} (act : Nat → Entry → Part → Part)
    (inside : fieldAt f.body 0 1 < 48)
    (generation : (p.entryCell (fieldAt f.body 0 1)).generation.toNat = fieldAt f.body 1 1)
    (use : (p.entryCell (fieldAt f.body 0 1)).use = some x) (fit : fits x = true) :
    p.answer f fits act = act (fieldAt f.body 0 1) x p := by
  have found : p.matched f fits = some (fieldAt f.body 0 1, x) := by
    unfold Part.matched
    dsimp only
    rw [if_pos ⟨inside, generation⟩]
    simp [Frame.field, use, fit]
  simp only [Part.answer, found]

theorem Part.tenderOf_eq {p : Part} {x : Entry} {slot id : Nat} {c : Check} {y : Tender}
    (reference : x.tender = some { slot := slot, id := id }) (check : p.checkAt slot = some c)
    (tender : c.tender id = some y) : p.tenderOf x = some (slot, c, y) := by
  simp only [Part.tenderOf, reference, check, tender]
  rfl

/-- An answer in time: the tender leaves flight for the verdict, and the entry is freed (R139). -/
theorem Part.answerInTime_eq {p : Part} {f : Frame} {e slot i : Nat} {x : Entry} {c : Check} {y : Tender} {z : Claim}
    (outcome : f.verdict.IsOutcome) (reference : x.tender = some { slot := slot, id := y.id })
    (check : p.checkAt slot = some c) (tender : c.tender y.id = some y) (claim : p.claimAt i = some z)
    (holder : z.terminal = y.terminal) (onCheck : z.check = c.number) (pinned : z.state = .pinned)
    (only : ∀ j w, p.claimAt j = some w → w.terminal = y.terminal → w.check = c.number → w.state = .pinned → j = i) :
    p.answerInTime f e x = (p.outOfFlight slot c y f.verdict i z).freeEntry e := by
  simp only [Part.answerInTime, Part.tenderOf_eq reference check tender,
    Part.leaveFlight_eq_outOfFlight check tender outcome claim holder onCheck pinned only]

/-- Settles O52: the link moves, the answer finds its entry, and the tender leaves flight for the verdict. -/
theorem authorizationsAreAnsweredInTime : Obligations.AuthorizationsAreAnsweredInTime := by
  intro s f e slot i x c y z ready index inside generation use sent live reference check tender flying claim holder onCheck
    pinned only
  subst index
  obtain ⟨token, eligible, live⟩ := live
  obtain ⟨_, _, _, kind, _⟩ := Part.gatewayReady_iff.mp ready
  have answered : f.verdict.IsOutcome → exec .authReply s = .next (s.become
      (((s.dropHead .al).alMoved.outOfFlight slot c y f.verdict i z).freeEntry (fieldAt f.body 0 1))) := by
    intro outcome
    have handed := Part.serveGateway_ready (handles := ofKind kindAuthReply) (handler := fun g q => q.authReply g) ready
      ((ofKind_iff _ f).mpr kind)
    have fits : (x.kind.isLive && (x.sent || x.watching)) = true := by simp [live, EntryKind.isLive, Entry.sent, sent]
    have inTime : x.sent = true := decide_eq_true sent
    have cell := (s.dropHead .al).alMoved_entryCell (fieldAt f.body 0 1)
    have stands := ((s.dropHead .al).alMoved_checkAt slot).trans check
    have claims := (s.dropHead .al).alMoved_claimAt
    rw [Part.alHeard_eq_alMoved, Part.authReply,
      Part.answer_matched (p := (s.dropHead .al).alMoved) _ inside (cell ▸ generation) (cell ▸ use) fits, if_pos inTime,
      Part.answerInTime_eq outcome reference stands tender ((claims i).trans claim) holder onCheck pinned
        fun j w other => only j w (claims j ▸ other)] at handed
    exact congrArg (fun r => Host.Outcome.next (s.become r)) handed
  refine ⟨fun approved => ?_, fun declined => ?_⟩
  · have verdict : f.verdict = .approved (bytesAt f.body 3 6) := by
      simp [Frame.verdict, Frame.approval, Frame.field, approved]
    rw [verdict] at answered
    exact answered trivial
  · have verdict : f.verdict = .declined (fieldAt f.body 9 1) := by
      simp [Frame.verdict, Frame.approval, Frame.field, Frame.reason, declined]
    rw [verdict] at answered
    exact answered trivial

end Sys2Proof.Machine
end

section
/-! PROOFS. Cash (R89, R90): the rounded remaining amount, and how a cash tender is sorted (O34). -/

namespace Sys2Proof.Machine

/-! ### The rounded remaining amount (R89) -/

/-- The guard against a remainder of 0 changes nothing: half a unit is above 0. -/
theorem roundedRemaining_eq {unit : Nat} (pos : 0 < unit) (remaining : Nat) : roundedRemaining remaining unit =
    remaining - remaining % unit + (if unit ≤ 2 * (remaining % unit) then unit else 0) := by
  have guard : (remaining % unit ≠ 0 ∧ unit ≤ 2 * (remaining % unit)) ↔ unit ≤ 2 * (remaining % unit) := by omega
  simp only [roundedRemaining, guard]

/-- At a unit of 1 nothing is rounded. -/
theorem roundedRemaining_one (remaining : Nat) : roundedRemaining remaining 1 = remaining := by
  rw [roundedRemaining_eq Nat.one_pos, Nat.mod_one]
  rfl

theorem roundedRemaining_mod {unit : Nat} (pos : 0 < unit) (remaining : Nat) : roundedRemaining remaining unit % unit = 0 := by
  have whole : (remaining - remaining % unit) % unit = 0 := Nat.sub_mod_eq_zero_of_mod_eq (Nat.mod_mod _ _).symm
  rw [roundedRemaining_eq pos]
  split
  · rw [Nat.add_mod_right, whole]
  · exact whole

/-- What is rounded moves by at most half a unit, either way. -/
theorem roundedRemaining_near {unit : Nat} (pos : 0 < unit) (remaining : Nat) :
    2 * ((roundedRemaining remaining unit : Int) - remaining).natAbs ≤ unit := by
  have small := Nat.mod_lt remaining pos
  have part := Nat.mod_le remaining unit
  rw [roundedRemaining_eq pos]
  split <;> omega

/-! ### The three ways a tender is sorted (R90) -/

section
variable {remaining unit tendered : Nat}

theorem sortCash_final (covers : roundedRemaining remaining unit ≤ tendered) : sortCash remaining unit tendered =
    { applied := roundedRemaining remaining unit, rounding := (roundedRemaining remaining unit : Int) - remaining,
      change := tendered - roundedRemaining remaining unit } := by
  rw [sortCash, if_pos covers]

theorem sortCash_exact (covers : remaining ≤ tendered) (short : tendered < roundedRemaining remaining unit) :
    sortCash remaining unit tendered = { applied := remaining, rounding := 0, change := tendered - remaining } := by
  rw [sortCash, if_neg (Nat.not_le.mpr short), if_pos covers]

theorem sortCash_partial (less : tendered < remaining) (short : tendered < roundedRemaining remaining unit) :
    sortCash remaining unit tendered = { applied := tendered, rounding := 0, change := 0 } := by
  rw [sortCash, if_neg (Nat.not_le.mpr short), if_neg (Nat.not_le.mpr less)]

end

/-- Every tender is sorted in one of the three ways. -/
theorem sortCash_cases (remaining unit tendered : Nat) :
    roundedRemaining remaining unit ≤ tendered ∨
      (remaining ≤ tendered ∧ tendered < roundedRemaining remaining unit) ∨
      (tendered < remaining ∧ tendered < roundedRemaining remaining unit) := by
  omega

/-- Nothing is lost: what is tendered is applied or given back. -/
theorem sortCash_applied_add_change (remaining unit tendered : Nat) :
    (sortCash remaining unit tendered).applied + (sortCash remaining unit tendered).change = tendered := by
  obtain final | ⟨covers, short⟩ | ⟨less, short⟩ := sortCash_cases remaining unit tendered
  · rw [sortCash_final final]
    exact Nat.add_sub_of_le final
  · rw [sortCash_exact covers short]
    exact Nat.add_sub_of_le covers
  · rw [sortCash_partial less short]
    rfl

theorem sortCash_rounding_near {unit : Nat} (pos : 0 < unit) (remaining tendered : Nat) :
    2 * (sortCash remaining unit tendered).rounding.natAbs ≤ unit := by
  obtain final | ⟨covers, short⟩ | ⟨less, short⟩ := sortCash_cases remaining unit tendered
  · rw [sortCash_final final]
    exact roundedRemaining_near pos remaining
  · rw [sortCash_exact covers short]
    exact Nat.zero_le _
  · rw [sortCash_partial less short]
    exact Nat.zero_le _

/-- What is applied, less the rounding, is taken off what is owed: all of it, or what a partial tender holds. -/
theorem sortCash_leaves (remaining unit tendered : Nat) :
    (remaining : Int) + (sortCash remaining unit tendered).rounding - (sortCash remaining unit tendered).applied =
      if remaining ≤ tendered ∨ roundedRemaining remaining unit ≤ tendered then 0 else (remaining : Int) - tendered := by
  obtain final | ⟨covers, short⟩ | ⟨less, short⟩ := sortCash_cases remaining unit tendered
  · rw [sortCash_final final, if_pos (.inr final)]
    dsimp only
    omega
  · rw [sortCash_exact covers short, if_pos (.inl covers)]
    dsimp only
    omega
  · rw [sortCash_partial less short, if_neg (by omega)]
    dsimp only
    omega

/-- At a unit of 1 a tender is final or partial, and is not rounded. -/
theorem sortCash_one (remaining tendered : Nat) : sortCash remaining 1 tendered =
    { applied := min tendered remaining, rounding := 0, change := tendered - remaining } := by
  by_cases covers : remaining ≤ tendered
  · rw [sortCash_final (by rwa [roundedRemaining_one]), roundedRemaining_one, Nat.min_eq_right covers, Int.sub_self]
  · have less := Nat.lt_of_not_le covers
    rw [sortCash_partial less (by rwa [roundedRemaining_one]), Nat.min_eq_left (Nat.le_of_lt less),
      Nat.sub_eq_zero_of_le (Nat.le_of_lt less)]

/-! ### The tender that records it, entered into its share (R63, R120) -/

/-- A tender entered raises the remaining amount by its rounding and lowers it by its amount. -/
theorem Share.remaining_enter (x : Share) (t : Tender) :
    (x.enter t).remaining = x.remaining + t.payment.rounding - t.amount := by
  simp only [Share.enter, Share.remaining]
  omega

/-- Settles O34: `sortCash_final`, `sortCash_exact` and `sortCash_partial` over the rounding of `roundedRemaining_eq`; the share
is left what `sortCash_leaves` says. -/
theorem cashIsSorted : Obligations.CashIsSorted := by
  unfold Obligations.CashIsSorted
  refine ⟨fun remaining unit tendered pos => ?_, fun v x c f _ owing => ?_⟩
  · dsimp only
    rw [← roundedRemaining_eq pos remaining]
    exact ⟨sortCash_final, sortCash_exact, sortCash_partial, sortCash_applied_add_change _ _ _,
      sortCash_rounding_near pos _ _, roundedRemaining_mod pos _⟩
  · refine ⟨rfl, rfl, rfl, ?_, fun rounded => ?_⟩
    · have left := sortCash_leaves x.remaining.toNat (unitFor v x) (fieldAt f.body 5 4)
      rw [Int.toNat_of_nonneg (Int.le_of_lt owing)] at left
      exact (x.remaining_enter _).trans left
    · rw [unitFor, if_neg rounded]
      exact sortCash_one _ _

end Sys2Proof.Machine
end

section
/-! PROOFS. The Settlement Arithmetic Unit (05): quotients, the totals, allocations and line parts, and the dues of every rule
plan, which sum to the total (O32). -/

namespace Sys2Proof.Machine

/-! ### Quotients (R68) -/

/-- Round half up in one division. -/
theorem roundHalfUp_eq {d : Nat} (pos : 0 < d) (n : Nat) : roundHalfUp n d = (2 * n + d) / (2 * d) := by
  have parts := Nat.div_add_mod' n d
  have small := Nat.mod_lt n pos
  have remainder : n - n / d * d = n % d := by omega
  have doubled : 2 * n + d = 2 * d * (n / d) + (2 * (n % d) + d) := by
    rw [Nat.mul_assoc, Nat.mul_comm d]
    omega
  have half : (2 * (n % d) + d) / (2 * d) = if d ≤ 2 * (n % d) then 1 else 0 := by
    split
    · exact Nat.div_eq_of_lt_le (by omega) (by omega)
    · exact Nat.div_eq_of_lt (by omega)
  rw [doubled, Nat.mul_add_div (by omega), half]
  simp only [roundHalfUp, remainder]
  by_cases up : d ≤ 2 * (n % d)
  · simp only [if_pos up]
  · simp only [if_neg up, Nat.add_zero]

/-- Rounding half up does not pass a whole number that the quotient does not pass. -/
theorem roundHalfUp_le {n d m : Nat} (pos : 0 < d) (h : n ≤ m * d) : roundHalfUp n d ≤ m := by
  rw [roundHalfUp_eq pos]
  refine Nat.le_of_lt_succ ((Nat.div_lt_iff_lt_mul (by omega)).mpr ?_)
  have bound : (m + 1) * (2 * d) = 2 * (m * d) + 2 * d := by
    rw [Nat.add_mul, Nat.one_mul, Nat.mul_left_comm]
  rw [Nat.succ_eq_add_one, bound]
  omega

theorem roundHalfUp_zero {d : Nat} (pos : 0 < d) : roundHalfUp 0 d = 0 :=
  Nat.le_zero.mp (roundHalfUp_le pos (Nat.zero_le _))

/-! ### Sums over the shares and over the classes -/

section
variable {α ι κ : Type} [Add α] [Zero α] [Std.LawfulIdentity (α := α) (· + ·) 0]

theorem sum_map_zero (l : List ι) : (l.map fun _ => (0 : α)).sum = 0 := by
  induction l with
  | nil => rfl
  | cons i l ih => rw [List.map_cons, List.sum_cons, ih, Std.LawfulLeftIdentity.left_id (op := (· + ·)) (0 : α)]

variable [Std.Associative (α := α) (· + ·)]

theorem sum_shares_succ (n : Nat) (f : Nat → α) :
    ((List.range' 1 (n + 1)).map f).sum = ((List.range' 1 n).map f).sum + f (n + 1) := by
  rw [List.range'_1_concat, List.map_append, List.sum_append, Nat.add_comm 1 n]
  exact congrArg _ (Std.LawfulRightIdentity.right_id (op := (· + ·)) _)

variable [Std.Commutative (α := α) (· + ·)]

theorem sum_map_add (l : List ι) (f g : ι → α) : (l.map fun i => f i + g i).sum = (l.map f).sum + (l.map g).sum := by
  induction l with
  | nil => exact (Std.LawfulLeftIdentity.left_id (op := (· + ·)) (0 : α)).symm
  | cons i l ih =>
    simp only [List.map_cons, List.sum_cons, ih]
    ac_rfl

/-- Sums over two lists, taken either way round. -/
theorem sum_map_comm (l : List ι) (m : List κ) (f : ι → κ → α) :
    (l.map fun i => (m.map fun j => f i j).sum).sum = (m.map fun j => (l.map fun i => f i j).sum).sum := by
  induction l with
  | nil => exact (sum_map_zero m).symm
  | cons i l ih => simp only [List.map_cons, List.sum_cons, ih, sum_map_add]

end

/-- A sum of ones counts. -/
theorem sum_map_ite {ι : Type} (p : ι → Prop) [DecidablePred p] (l : List ι) :
    (l.map fun i => if p i then 1 else 0).sum = l.countP fun i => decide (p i) := by
  induction l with
  | nil => rfl
  | cons i l ih =>
    rw [List.map_cons, List.sum_cons, List.countP_cons, ih, Nat.add_comm]
    simp only [decide_eq_true_eq]

/-- A list read over its indices. -/
theorem map_range_getD (l : List Nat) : ((List.range l.length).map fun i => l[i]?.getD 0) = l := by
  refine List.ext_getElem (by rw [List.length_map, List.length_range]) fun i _ inside => ?_
  rw [List.getElem_map, List.getElem_range, List.getElem?_eq_getElem inside, Option.getD_some]

/-- A list of a figure for each share, read share by share. -/
theorem map_shares_getD {n : Nat} {l : List Nat} (length : l.length = n) :
    ((List.range' 1 n).map fun k => l[k - 1]?.getD 0) = l := by
  subst length
  rw [List.range'_eq_map_range, List.map_map]
  refine Eq.trans (List.map_congr_left fun i _ => ?_) (map_range_getD l)
  rw [Function.comp_apply, Nat.add_sub_cancel_left]

/-- The sum of figures none of which is below 0. -/
theorem sum_map_toNat {ι : Type} {l : List ι} {f : ι → Int} (nonneg : ∀ i ∈ l, 0 ≤ f i) :
    (((l.map fun i => (f i).toNat).sum : Nat) : Int) = (l.map f).sum := by
  induction l with
  | nil => rfl
  | cons i l ih =>
    obtain ⟨first, rest⟩ := List.forall_mem_cons.mp nonneg
    rw [List.map_cons, List.map_cons, List.sum_cons, List.sum_cons, Int.natCast_add, ih rest, Int.toNat_of_nonneg first]

theorem sumClasses_tabulate (f : Nat → Nat) : sumClasses (tabulate 8 f) = ((List.range 8).map f).sum := rfl

/-! ### The totals (R70 to R74) -/

/-- The base of a class by the condition on its lines. -/
theorem classBase_eq (lines : List Line) (c : Nat) : classBase lines c =
    ((lines.filter fun l => decide (l.live = true ∧ l.cls = c)).map fun l => l.amount).sum := by
  refine congrArg (fun p => ((lines.filter p).map fun l => l.amount).sum) (funext fun l => ?_)
  exact ((Bool.decide_and _ _).trans (congrArg (· && decide (l.cls = c)) Bool.decide_eq_true)).symm

theorem negativeBase_iff (lines : List Line) : negativeBase lines = true ↔ ∃ c < 8, classBase lines c < 0 := by
  simp only [negativeBase, List.any_eq_true, List.mem_range, decide_eq_true_eq]

theorem classBase_nonneg {lines : List Line} (sound : negativeBase lines = false) {c : Nat} (low : c < 8) :
    0 ≤ classBase lines c := by
  refine Int.not_lt.mp fun negative => ?_
  have reported := (negativeBase_iff lines).mpr ⟨c, low, negative⟩
  rw [sound] at reported
  cases reported

section
variable (v : Venue) (covers : Nat) (lines : List Line)

theorem workTotals_base (c : Nat) :
    (workTotals v covers lines).bases[c]? = if c < 8 then some (classBase lines c).toNat else none :=
  getElem?_tabulate _ _ _

theorem workTotals_tax (c : Nat) : (workTotals v covers lines).taxes[c]? =
    if c < 8 then some (classTax v (classBase lines c).toNat c) else none :=
  getElem?_tabulate _ _ _

theorem workTotals_itemNet :
    (workTotals v covers lines).itemNet = ((List.range 8).map fun c => (classBase lines c).toNat).sum := rfl

theorem workTotals_taxes_sum : (workTotals v covers lines).taxes.toList.sum =
    ((List.range 8).map fun c => classTax v (classBase lines c).toNat c).sum := rfl

theorem workTotals_service :
    (workTotals v covers lines).service = serviceCharge v covers (workTotals v covers lines).itemNet := rfl

theorem workTotals_total : (workTotals v covers lines).total =
    (workTotals v covers lines).itemNet + (workTotals v covers lines).service +
      (if v.inclusive then 0 else (workTotals v covers lines).taxes.toList.sum) := by
  cases inclusive : v.inclusive
  · simp only [workTotals, inclusive, sumClasses]
    exact Nat.add_right_comm _ _ _
  · simp only [workTotals, inclusive]
    rfl

theorem workTotals_itemNet_le_total : (workTotals v covers lines).itemNet ≤ (workTotals v covers lines).total := by
  rw [workTotals_total]
  omega

end

theorem classTax_eq {v : Venue} {c rate : Nat} (read : v.rates[c]? = some rate) (base : Nat) : classTax v base c =
    if v.inclusive then (2 * (base * rate) + (100000 + rate)) / (2 * (100000 + rate))
    else (2 * (base * rate) + 100000) / (2 * 100000) := by
  simp only [classTax, read, Option.getD_some]
  rw [roundHalfUp_eq (by omega), roundHalfUp_eq (by omega)]

/-- No tax is due on a base of 0. -/
theorem classTax_zero (v : Venue) (c : Nat) : classTax v 0 c = 0 := by
  simp only [classTax, Nat.zero_mul]
  split
  · exact roundHalfUp_zero (by omega)
  · exact roundHalfUp_zero (by omega)

theorem serviceCharge_eq (v : Venue) (covers itemNet : Nat) : serviceCharge v covers itemNet =
    if v.serviceThreshold = 0 ∨ covers < v.serviceThreshold then 0
    else (2 * (itemNet * v.serviceRate) + 100000) / (2 * 100000) := by
  rw [serviceCharge, ← roundHalfUp_eq (by omega)]
  by_cases off : v.serviceThreshold = 0
  · rw [if_pos off, if_pos (.inl off)]
  · simp only [off, if_false, false_or]

/-- No service charge is due on an item net of 0. -/
theorem serviceCharge_zero (v : Venue) (covers : Nat) : serviceCharge v covers 0 = 0 := by
  rw [serviceCharge_eq, Nat.zero_mul]
  exact ite_self _

/-! ### EVEN and AMOUNT (R76 to R78) -/

/-- The figures of the shares 1 to n that owe `due`, where a pre-tax part follows from the due (R77). -/
def Totals.split (t : Totals) (n : Nat) (due : Nat → Nat) : List Figures :=
  (List.range' 1 n).map fun k => { due := due k, preTax := proportion (due k) t.itemNet t.total, portions := none }

theorem Totals.split_dues (t : Totals) (n : Nat) (due : Nat → Nat) :
    (t.split n due).map (fun g => g.due) = (List.range' 1 n).map due := by
  rw [Totals.split, List.map_map]
  rfl

theorem Totals.length_split (t : Totals) (n : Nat) (due : Nat → Nat) : (t.split n due).length = n := by
  rw [Totals.split, List.length_map, List.length_range']

theorem Totals.split_read {t : Totals} {n : Nat} {due : Nat → Nat} {k : Nat} {g : Figures}
    (read : (t.split n due)[k]? = some g) : g.due = due (k + 1) := by
  simp only [Totals.split, List.getElem?_map, Option.map_eq_some_iff, List.getElem?_eq_some_iff, List.length_range',
    List.getElem_range'] at read
  obtain ⟨_, ⟨_, rfl⟩, rfl⟩ := read
  rw [Nat.one_mul, Nat.add_comm]

theorem Totals.split_preTax {t : Totals} {n : Nat} {due : Nat → Nat} {g : Figures} (mem : g ∈ t.split n due) :
    g.preTax = proportion g.due t.itemNet t.total := by
  obtain ⟨k, _, rfl⟩ := List.mem_map.mp mem
  rfl

theorem proportion_eq (due itemNet total : Nat) : proportion due itemNet total =
    if total = 0 then 0 else (2 * (due * itemNet) + total) / (2 * total) := by
  by_cases zero : total = 0
  · rw [proportion, if_pos zero, if_pos zero]
  · rw [proportion, if_neg zero, if_neg zero, roundHalfUp_eq (Nat.pos_of_ne_zero zero)]

/-- A pre-tax part is no greater than the due, as the item net is no greater than the total. -/
theorem proportion_le {itemNet total : Nat} (h : itemNet ≤ total) (due : Nat) : proportion due itemNet total ≤ due := by
  unfold proportion
  split
  case isTrue => exact Nat.zero_le _
  case isFalse zero => exact roundHalfUp_le (Nat.pos_of_ne_zero zero) (Nat.mul_le_mul_left due h)

/-- Under EVEN the quotient falls on every share, and the remainder on that many of the lowest. -/
theorem sum_evenDue {n : Nat} (pos : 0 < n) (total : Nat) : ((List.range' 1 n).map (evenDue total n)).sum = total := by
  have upTo : ∀ m, ((List.range' 1 m).map (evenDue total n)).sum = m * (total / n) + min m (total % n) := by
    intro m
    induction m with
    | zero => rw [Nat.zero_mul, Nat.zero_min]; rfl
    | succ m ih =>
      rw [sum_shares_succ, ih, evenDue, Nat.add_mul, Nat.one_mul]
      by_cases odd : m + 1 ≤ total % n
      · rw [if_pos odd]
        omega
      · rw [if_neg odd]
        omega
  rw [upTo, Nat.min_eq_right (Nat.le_of_lt (Nat.mod_lt total pos)), Nat.div_add_mod]

/-- Under AMOUNT the last share owes what the given amounts leave. -/
theorem sum_amountDue {total n : Nat} {given : List Nat} (count : given.length + 1 = n) (room : given.sum ≤ total) :
    ((List.range' 1 n).map (amountDue total given n)).sum = total := by
  subst count
  have others : (List.range' 1 given.length).map (amountDue total given (given.length + 1)) = given := by
    refine Eq.trans (List.map_congr_left fun k mem => ?_) (map_shares_getD rfl)
    have range := List.mem_range'_1.mp mem
    exact if_pos (by omega)
  have last : amountDue total given (given.length + 1) (given.length + 1) = total - given.sum := if_neg (Nat.lt_irrefl _)
  rw [sum_shares_succ, others, last]
  exact Nat.add_sub_of_le room

/-! ### The parts of a line (R79) -/

section
variable (set : BitVec 16)

theorem rankIn_succ (k : Nat) : rankIn set (k + 2) = rankIn set (k + 1) + if inSet set (k + 1) then 1 else 0 := by
  simp only [rankIn, Nat.succ_sub_one, List.range'_1_concat, List.filter_append, List.length_append, Nat.add_comm 1 k]
  cases held : inSet set (k + 1) with
  | false => simp only [List.filter_cons, held, Bool.false_eq_true, if_false, List.filter_nil, List.length_nil]
  | true => simp only [List.filter_cons, held, if_true, List.filter_nil, List.length_singleton]

/-- The parts of the shares 1 to n: the quotient for each of them that the set holds, and the odd units as far as they go. -/
theorem sum_linePart (amount : Int) (n : Nat) :
    let q := amount.tdiv (setSize set)
    let r := amount - (setSize set : Int) * q
    ((List.range' 1 n).map (linePart amount set)).sum =
      (rankIn set (n + 1) : Int) * q + (min (rankIn set (n + 1)) r.natAbs : Nat) * r.sign := by
  intro q r
  induction n with
  | zero =>
    have start : rankIn set 1 = 0 := rfl
    rw [start, Nat.zero_min, Int.natCast_zero, Int.zero_mul, Int.zero_mul]
    rfl
  | succ n ih =>
    have part : linePart amount set (n + 1) =
        if inSet set (n + 1) then (if rankIn set (n + 1) < r.natAbs then q + r.sign else q) else 0 := rfl
    rw [sum_shares_succ, ih, part, rankIn_succ]
    cases inSet set (n + 1) with
    | false => simp only [Bool.false_eq_true, if_false, Nat.add_zero, Int.add_zero]
    | true =>
      by_cases odd : rankIn set (n + 1) < r.natAbs
      · have moves : min (rankIn set (n + 1) + 1) r.natAbs = min (rankIn set (n + 1)) r.natAbs + 1 := by omega
        simp only [if_true, if_pos odd, moves, Int.natCast_add, Int.add_mul, Int.natCast_one, Int.one_mul]
        ac_rfl
      · have stays : min (rankIn set (n + 1) + 1) r.natAbs = min (rankIn set (n + 1)) r.natAbs := by omega
        simp only [if_true, if_neg odd, stays, Int.natCast_add, Int.add_mul, Int.natCast_one, Int.one_mul]
        ac_rfl

/-- A set that holds shares of 1 to n alone has them all among those. -/
theorem rankIn_eq_setSize {n : Nat} (few : n ≤ 16) (holds : set.toNat < 2 ^ n) : rankIn set (n + 1) = setSize set := by
  have above : ∀ d, rankIn set (n + d + 1) = rankIn set (n + 1) := by
    intro d
    induction d with
    | zero => rfl
    | succ d ih =>
      have outside : set.getLsbD (n + d) = false := by
        rw [← BitVec.testBit_toNat]
        exact Nat.testBit_lt_two_pow (Nat.lt_of_lt_of_le holds (Nat.pow_le_pow_right (by omega) (by omega)))
      rw [← Nat.add_assoc, rankIn_succ, ih]
      simp only [inSet, Nat.add_sub_cancel, outside, Bool.and_false, Bool.false_eq_true, if_false, Nat.add_zero]
  have whole := above (16 - n)
  rw [Nat.add_sub_of_le few] at whole
  exact whole.symm

end

theorem setSize_pos {set : BitVec 16} (nonempty : set ≠ 0) : 0 < setSize set := by
  obtain ⟨i, held⟩ : ∃ i, set.getLsbD i = true := Classical.byContradiction fun absent =>
    nonempty (BitVec.eq_of_getLsbD_eq fun i _ => by
      rw [Bool.eq_false_iff.mpr (not_exists.mp absent i)]
      exact BitVec.getLsbD_zero.symm)
  have inside := BitVec.lt_of_getLsbD held
  refine List.length_pos_of_mem (a := i + 1) (List.mem_filter.mpr ⟨List.mem_range'_1.mpr (by omega), ?_⟩)
  simp only [inSet, Nat.add_sub_cancel, held, Bool.and_true, decide_eq_true_eq]
  omega

/-- The parts of a line sum to its amount over the shares of the list. -/
theorem sum_linePart_eq {set : BitVec 16} {n : Nat} (few : n ≤ 16) (nonempty : set ≠ 0) (holds : set.toNat < 2 ^ n)
    (amount : Int) : ((List.range' 1 n).map (linePart amount set)).sum = amount := by
  have size := setSize_pos nonempty
  have remainder : amount - (setSize set : Int) * amount.tdiv (setSize set) = amount.tmod (setSize set) :=
    (Int.tmod_def _ _).symm
  have small : (amount.tmod (setSize set)).natAbs < setSize set := by
    rw [Int.natAbs_tmod]
    exact Nat.mod_lt _ size
  rw [sum_linePart set, rankIn_eq_setSize set few holds, remainder, Nat.min_eq_right (Nat.le_of_lt small),
    Int.mul_comm _ (Int.sign _), Int.sign_mul_natAbs, Int.add_comm]
  exact Int.tmod_add_mul_tdiv _ _

/-! ### Class portions (R80) -/

/-- Every line's share set holds shares of 1 to n, and one of them. -/
def SetsWithin (n : Nat) (lines : List Line) : Prop :=
  ∀ l ∈ lines, ∃ set : BitVec 16, l.shareSet = some set ∧ set ≠ 0 ∧ set.toNat < 2 ^ n

/-- The parts of lines that the shares 1 to n take sum to the lines' amounts. -/
theorem sum_lineParts {n : Nat} {lines : List Line} (few : n ≤ 16) (sets : SetsWithin n lines) :
    ((List.range' 1 n).map fun k => (lines.map fun l => linePart l.amount (l.shareSet.getD 0) k).sum).sum =
      (lines.map fun l => l.amount).sum := by
  rw [sum_map_comm]
  refine congrArg List.sum (List.map_congr_left fun l mem => ?_)
  obtain ⟨set, held, nonempty, holds⟩ := sets l mem
  rw [held, Option.getD_some]
  exact sum_linePart_eq few nonempty holds l.amount

/-- The portions of a class sum to its base. -/
theorem sum_classPortion {n : Nat} {lines : List Line} (few : n ≤ 16) (sets : SetsWithin n lines) (c : Nat) :
    ((List.range' 1 n).map (classPortion lines c)).sum = classBase lines c :=
  sum_lineParts few fun l mem => sets l (List.mem_filter.mp mem).1

theorem classPortion_nonneg {n : Nat} {lines : List Line} (sound : negativePortion lines n = false) {c k : Nat}
    (share : k ∈ List.range' 1 n) (low : c < 8) : 0 ≤ classPortion lines c k := by
  refine Int.not_lt.mp fun negative => ?_
  have reported : negativePortion lines n = true := List.any_eq_true.mpr ⟨k, share,
    List.any_eq_true.mpr ⟨c, List.mem_range.mpr low, decide_eq_true negative⟩⟩
  rw [sound] at reported
  cases reported

/-- The portions of a class over the shares 1 to n, which are the weights of its tax. -/
def classWeights (lines : List Line) (n c : Nat) : List Nat :=
  (List.range' 1 n).map fun k => (classPortion lines c k).toNat

theorem length_classWeights (lines : List Line) (n c : Nat) : (classWeights lines n c).length = n := by
  rw [classWeights, List.length_map, List.length_range']

/-- The portions as the shares hold them, none below 0, sum to the class base too. -/
theorem sum_classWeights {n : Nat} {lines : List Line} (few : n ≤ 16) (sets : SetsWithin n lines)
    (sound : negativePortion lines n = false) {c : Nat} (low : c < 8) :
    (classWeights lines n c).sum = (classBase lines c).toNat := by
  have portions := sum_map_toNat (f := classPortion lines c) fun k share => classPortion_nonneg sound share low
  rw [← sum_classPortion few sets c, ← portions, Int.toNat_natCast, classWeights]

/-- The shares' pre-tax parts sum to the item net. -/
theorem sum_nets {n : Nat} {lines : List Line} (few : n ≤ 16) (sets : SetsWithin n lines)
    (sound : negativePortion lines n = false) (v : Venue) (covers : Nat) :
    ((List.range' 1 n).map fun k => sumClasses (portionsOf lines k)).sum = (workTotals v covers lines).itemNet := by
  simp only [portionsOf, sumClasses_tabulate, workTotals_itemNet]
  rw [sum_map_comm]
  exact congrArg List.sum (List.map_congr_left fun c mem => sum_classWeights few sets sound (List.mem_range.mp mem))

/-! ### Allocation by largest remainder (R81) -/

/-- The index `j` goes before the index `i`: a greater key, or an equal one at a lower index. -/
abbrev GoesBefore (keys : List Nat) (j i : Nat) : Prop :=
  keys[i]?.getD 0 < keys[j]?.getD 0 ∨ (keys[j]?.getD 0 = keys[i]?.getD 0 ∧ j < i)

theorem keyRank_eq (keys : List Nat) (i : Nat) :
    keyRank keys i = (List.range keys.length).countP fun j => decide (GoesBefore keys j i) := by
  rw [List.countP_eq_length_filter]
  refine congrArg (fun p => ((List.range keys.length).filter p).length) (funext fun j => ?_)
  exact ((Bool.decide_or _ _).trans (congrArg (decide _ || ·) (Bool.decide_and _ _))).symm

/-- What one test passes and another does not makes its count greater, if it passes all that the other does. -/
theorem countP_lt_of_imp {ι : Type} {p q : ι → Bool} {l : List ι} {i : ι} (imp : ∀ j, p j = true → q j = true)
    (mem : i ∈ l) (passes : q i = true) (fails : p i = false) : l.countP p < l.countP q := by
  induction l with
  | nil => cases mem
  | cons j l ih =>
    rw [List.countP_cons, List.countP_cons]
    obtain rfl | mem := List.mem_cons.mp mem
    · have rest : l.countP p ≤ l.countP q := List.countP_mono_left fun j _ => imp j
      rw [if_pos passes, fails]
      exact Nat.lt_succ_of_le rest
    · have rest := ih mem
      have first := imp j
      by_cases pj : p j = true
      · rw [if_pos pj, if_pos (first pj)]
        exact Nat.succ_lt_succ rest
      · rw [if_neg pj]
        exact Nat.lt_of_lt_of_le rest (Nat.le_add_right _ _)

section
variable {keys : List Nat} {i j : Nat}

theorem not_goesBefore_self (keys : List Nat) (i : Nat) : ¬ GoesBefore keys i i := by
  unfold GoesBefore
  omega

theorem keyRank_lt_of_goesBefore (inside : j < keys.length) (before : GoesBefore keys j i) : keyRank keys j < keyRank keys i := by
  rw [keyRank_eq, keyRank_eq]
  refine countP_lt_of_imp (fun k ahead => ?_) (List.mem_range.mpr inside) (decide_eq_true before)
    (decide_eq_false (not_goesBefore_self keys j))
  simp only [GoesBefore, decide_eq_true_eq] at before ahead ⊢
  omega

/-- Of two indices one goes before the other, so no rank is given twice. -/
theorem keyRank_inj (hi : i < keys.length) (hj : j < keys.length) (same : keyRank keys i = keyRank keys j) : i = j := by
  refine Decidable.byContradiction fun ne => ?_
  obtain before | before : GoesBefore keys i j ∨ GoesBefore keys j i := by
    unfold GoesBefore
    omega
  · exact Nat.ne_of_lt (keyRank_lt_of_goesBefore hi before) same
  · exact Nat.ne_of_gt (keyRank_lt_of_goesBefore hj before) same

theorem keyRank_lt_length (inside : i < keys.length) : keyRank keys i < keys.length := by
  have fewer := countP_lt_of_imp (p := fun j => decide (GoesBefore keys j i)) (q := fun _ => true) (fun _ _ => rfl)
    (List.mem_range.mpr inside) rfl (decide_eq_false (not_goesBefore_self keys i))
  rw [keyRank_eq]
  exact Nat.lt_of_lt_of_le fewer (Nat.le_trans List.countP_le_length (Nat.le_of_eq List.length_range))

end

/-- Each number below the length is the rank of one index. -/
theorem keyRanks_perm (keys : List Nat) :
    ((List.range keys.length).map (keyRank keys)).Perm (List.range keys.length) := by
  have distinct : ((List.range keys.length).map (keyRank keys)).Nodup :=
    List.pairwise_map.mpr (List.nodup_range.imp_of_mem fun hi hj ne same =>
      ne (keyRank_inj (List.mem_range.mp hi) (List.mem_range.mp hj) same))
  have below : (List.range keys.length).map (keyRank keys) ⊆ List.range keys.length := fun r mem => by
    obtain ⟨i, inside, rfl⟩ := List.mem_map.mp mem
    exact List.mem_range.mpr (keyRank_lt_length (List.mem_range.mp inside))
  refine (List.perm_ext_iff_of_nodup distinct List.nodup_range).mpr fun r => ⟨fun mem => below mem, fun low => ?_⟩
  refine Decidable.byContradiction fun absent => ?_
  have more := (List.nodup_cons.mpr ⟨absent, distinct⟩).length_le_of_subset (List.cons_subset.mpr ⟨low, below⟩)
  rw [List.length_cons, List.length_map] at more
  exact Nat.not_succ_le_self _ more

theorem countP_range_lt (n m : Nat) : (List.range n).countP (fun i => decide (i < m)) = min n m := by
  induction n with
  | zero => exact (Nat.zero_min m).symm
  | succ n ih =>
    rw [List.range_succ, List.countP_append, ih, List.countP_singleton]
    simp only [decide_eq_true_eq]
    split <;> omega

/-- Exactly `m` of the ranks lie below `m`. -/
theorem countP_keyRank_lt {keys : List Nat} {m : Nat} (h : m ≤ keys.length) :
    (List.range keys.length).countP (fun i => decide (keyRank keys i < m)) = m := by
  have ranks := (keyRanks_perm keys).countP_eq fun r => decide (r < m)
  rw [List.countP_map, countP_range_lt, Nat.min_eq_right h] at ranks
  exact ranks

/-- The keys that rank the weights: what the proportion of each leaves over. -/
def allocationKeys (amount : Nat) (weights : List Nat) : List Nat := weights.map fun w => amount * w % weights.sum

/-- The proportions of the weights, rounded down. -/
def allocationFloors (amount : Nat) (weights : List Nat) : List Nat := weights.map fun w => amount * w / weights.sum

/-- The units that the proportions rounded down do not give out. -/
def allocationLeftover (amount : Nat) (weights : List Nat) : Nat := amount - (allocationFloors amount weights).sum

/-- Quotients, times the divisor, and remainders sum to what is divided. -/
theorem sum_div_mul_add_sum_mod (amount base : Nat) (weights : List Nat) :
    (weights.map fun w => amount * w / base).sum * base + (weights.map fun w => amount * w % base).sum =
      amount * weights.sum := by
  induction weights with
  | nil => exact Nat.zero_mul base
  | cons w weights ih =>
    have here := Nat.div_add_mod' (amount * w) base
    simp only [List.map_cons, List.sum_cons, Nat.add_mul, Nat.mul_add]
    omega

/-- Each remainder is below the divisor. -/
theorem sum_mod_add_length_le {base : Nat} (pos : 0 < base) (amount : Nat) (weights : List Nat) :
    (weights.map fun w => amount * w % base).sum + weights.length ≤ weights.length * base := by
  induction weights with
  | nil => exact Nat.zero_le _
  | cons w weights ih =>
    have here := Nat.mod_lt (amount * w) pos
    rw [List.map_cons, List.sum_cons, List.length_cons, Nat.add_mul, Nat.one_mul]
    omega

section
variable (amount : Nat) (weights : List Nat)

theorem length_allocationKeys : (allocationKeys amount weights).length = weights.length := List.length_map _

theorem length_allocationFloors : (allocationFloors amount weights).length = weights.length := List.length_map _

theorem length_allocate : (allocate amount weights).length = weights.length := by
  unfold allocate
  dsimp only
  split
  · exact List.length_map _
  · rw [List.length_mapIdx, List.length_map]

theorem sum_floors_mul_add_sum_keys :
    (allocationFloors amount weights).sum * weights.sum + (allocationKeys amount weights).sum = amount * weights.sum :=
  sum_div_mul_add_sum_mod amount weights.sum weights

variable {weights}

theorem sum_allocate_of_sum_zero (zero : weights.sum = 0) : (allocate amount weights).sum = 0 := by
  rw [allocate, if_pos zero]
  exact sum_map_zero weights

section
variable (pos : 0 < weights.sum)
include pos

theorem allocate_eq : allocate amount weights = (allocationFloors amount weights).mapIdx fun i t =>
    if keyRank (allocationKeys amount weights) i < allocationLeftover amount weights then t + 1 else t :=
  if_neg (Nat.ne_of_gt pos)

/-- A weight is given its proportion rounded down, and one unit more if its rank is among the units left. -/
theorem allocate_getD {i : Nat} (inside : i < weights.length) : (allocate amount weights)[i]?.getD 0 =
    (allocationFloors amount weights)[i]?.getD 0 +
      if keyRank (allocationKeys amount weights) i < allocationLeftover amount weights then 1 else 0 := by
  have floor := List.getElem?_eq_getElem (l := allocationFloors amount weights) (i := i)
    (by rwa [length_allocationFloors])
  rw [allocate_eq amount pos, List.getElem?_mapIdx, floor, Option.map_some, Option.getD_some, Option.getD_some]
  split
  · rfl
  · rfl

theorem sum_floors_le : (allocationFloors amount weights).sum ≤ amount :=
  Nat.le_of_mul_le_mul_right (Nat.le.intro (sum_floors_mul_add_sum_keys amount weights)) pos

/-- Each key is below the sum of the weights, so fewer units than weights are left over. -/
theorem allocationLeftover_lt : allocationLeftover amount weights < weights.length := by
  have nonempty : 0 < weights.length := List.length_pos_iff.mpr fun empty => by
    rw [empty] at pos
    exact Nat.lt_irrefl 0 pos
  have keys : (allocationKeys amount weights).sum + weights.length ≤ weights.length * weights.sum :=
    sum_mod_add_length_le pos amount weights
  have whole := sum_floors_mul_add_sum_keys amount weights
  refine Nat.lt_of_mul_lt_mul_right (a := weights.sum) ?_
  rw [allocationLeftover, Nat.sub_mul]
  omega

/-- An allocation gives out the whole amount, one unit more than the proportion to as many weights as units are left. -/
theorem sum_allocate : (allocate amount weights).sum = amount := by
  have units := countP_keyRank_lt (keys := allocationKeys amount weights) (m := allocationLeftover amount weights)
    (Nat.le_trans (Nat.le_of_lt (allocationLeftover_lt amount pos)) (Nat.le_of_eq (length_allocationKeys _ _).symm))
  have floors := map_range_getD (allocationFloors amount weights)
  rw [length_allocationKeys] at units
  rw [length_allocationFloors] at floors
  rw [← map_range_getD (allocate amount weights), length_allocate,
    List.map_congr_left fun i mem => allocate_getD amount pos (List.mem_range.mp mem), sum_map_add, floors, sum_map_ite, units]
  exact Nat.add_sub_of_le (sum_floors_le amount pos)

end

/-- Where every weight is 0, an amount of 0 alone is given out whole. -/
theorem sum_allocate_eq (given : weights.sum = 0 → amount = 0) : (allocate amount weights).sum = amount := by
  obtain zero | pos := Nat.eq_zero_or_pos weights.sum
  · rw [sum_allocate_of_sum_zero amount zero, given zero]
  · exact sum_allocate amount pos

end

/-! ### BY_ITEM (R80, R82 to R84) -/

/-- Lists of the same length are added index by index. -/
theorem getD_foldl_zipWith_add (lists : Nat → List Nat) (i : Nat) :
    ∀ (classes : List Nat) (sums : List Nat), (∀ c, (lists c).length = sums.length) → i < sums.length →
      (classes.foldl (fun sums c => List.zipWith (· + ·) sums (lists c)) sums)[i]?.getD 0 =
        sums[i]?.getD 0 + (classes.map fun c => (lists c)[i]?.getD 0).sum
  | [], sums, _, _ => rfl
  | c :: classes, sums, lengths, inside => by
    have kept : (List.zipWith (· + ·) sums (lists c)).length = sums.length := by
      rw [List.length_zipWith, lengths, Nat.min_self]
    have other : i < (lists c).length := by rwa [lengths]
    rw [List.foldl_cons, getD_foldl_zipWith_add lists i classes _ (fun c => by rw [lengths, kept]) (by rwa [kept]),
      List.getElem?_zipWith, List.getElem?_eq_getElem inside, List.map_cons, List.sum_cons, List.getElem?_eq_getElem other]
    exact Nat.add_assoc _ _ _

section
variable (v : Venue) (t : Totals) (lines : List Line) {n : Nat}

/-- The tax of a share is what the classes allocate to it, under EXCLUSIVE (R82). -/
theorem allocatedTaxes_getD {i : Nat} (inside : i < n) : (allocatedTaxes v t lines n)[i]?.getD 0 =
    if v.inclusive then 0
    else ((List.range 8).map fun c => (allocate (t.taxes[c]?.getD 0) (classWeights lines n c))[i]?.getD 0).sum := by
  have zeros : (List.replicate n 0)[i]?.getD 0 = 0 := by
    rw [List.getElem?_replicate, if_pos inside, Option.getD_some]
  cases inclusive : v.inclusive with
  | true =>
    rw [allocatedTaxes, inclusive, if_pos rfl, if_pos rfl]
    exact zeros
  | false =>
    have added := getD_foldl_zipWith_add (fun c => allocate (t.taxes[c]?.getD 0) (classWeights lines n c)) i (List.range 8)
      (List.replicate n 0) (fun c => by rw [length_allocate, length_classWeights, List.length_replicate])
      (by rwa [List.length_replicate])
    rw [zeros, Nat.zero_add] at added
    rw [allocatedTaxes, inclusive, if_neg Bool.false_ne_true, if_neg Bool.false_ne_true]
    exact added

variable (covers : Nat) {lines}

/-- The allocated taxes sum to the class taxes, where the portions of every class sum to its base: a class that no share has a
portion of owes no tax. -/
theorem sum_allocatedTaxes (few : n ≤ 16) (sets : SetsWithin n lines) (sound : negativePortion lines n = false) :
    ((List.range' 1 n).map fun k => (allocatedTaxes v (workTotals v covers lines) lines n)[k - 1]?.getD 0).sum =
      if v.inclusive then 0 else (workTotals v covers lines).taxes.toList.sum := by
  have shares : ∀ k ∈ List.range' 1 n, k - 1 < n := fun k mem => by
    have range := List.mem_range'_1.mp mem
    omega
  rw [List.map_congr_left fun k mem => allocatedTaxes_getD v _ lines (shares k mem)]
  cases v.inclusive with
  | true => exact sum_map_zero _
  | false =>
    simp only [Bool.false_eq_true, if_false]
    rw [sum_map_comm, workTotals_taxes_sum]
    refine congrArg List.sum (List.map_congr_left fun c mem => ?_)
    have low := List.mem_range.mp mem
    have weights := sum_classWeights few sets sound low
    rw [map_shares_getD (by rw [length_allocate, length_classWeights]), workTotals_tax, if_pos low, Option.getD_some]
    refine sum_allocate_eq _ fun zero => ?_
    rw [← weights, zero, classTax_zero]

/-- The allocated service charge sums to the service charge: on an item net of 0 none is due. -/
theorem sum_allocatedService (few : n ≤ 16) (sets : SetsWithin n lines) (sound : negativePortion lines n = false) :
    ((List.range' 1 n).map fun k => (allocatedService (workTotals v covers lines) lines n)[k - 1]?.getD 0).sum =
      (workTotals v covers lines).service := by
  have length : (allocatedService (workTotals v covers lines) lines n).length = n := by
    rw [allocatedService, length_allocate, List.length_map, List.length_range']
  rw [map_shares_getD length, allocatedService]
  refine sum_allocate_eq _ fun zero => ?_
  rw [workTotals_service, ← sum_nets few sets sound v covers, zero, serviceCharge_zero]

/-- Under BY_ITEM the dues sum to the total. -/
theorem sum_byItemDues (few : n ≤ 16) (sets : SetsWithin n lines) (sound : negativePortion lines n = false) :
    let x := workTotals v covers lines
    (((List.range' 1 n).map (byItemFigures lines (allocatedTaxes v x lines n) (allocatedService x lines n))).map
      fun g => g.due).sum = x.total := by
  intro x
  have dues : ∀ taxes services : List Nat, ((List.range' 1 n).map (byItemFigures lines taxes services)).map (fun g => g.due) =
      (List.range' 1 n).map fun k => sumClasses (portionsOf lines k) + taxes[k - 1]?.getD 0 + services[k - 1]?.getD 0 :=
    fun _ _ => List.map_map
  rw [dues, sum_map_add, sum_map_add, sum_nets few sets sound v covers, sum_allocatedTaxes v covers few sets sound,
    sum_allocatedService v covers few sets sound, workTotals_total]
  exact Nat.add_right_comm _ _ _

end

/-! ### Recomputation (R56) -/

section
variable {v : Venue} {plan : Plan} {t : Totals} {lines : List Line} {figures : List Figures}

theorem recompute_none (kind : plan.kind = .none) (ok : recompute v plan t lines = .ok figures) :
    figures = [{ due := t.total, preTax := t.itemNet, portions := none }] := by
  simp only [recompute, kind, Except.ok.injEq] at ok
  exact ok.symm

theorem recompute_even (kind : plan.kind = .even) (ok : recompute v plan t lines = .ok figures) :
    figures = t.split plan.count (evenDue t.total plan.count) := by
  simp only [recompute, kind, Except.ok.injEq] at ok
  exact ok.symm

theorem recompute_amount (kind : plan.kind = .amount) (ok : recompute v plan t lines = .ok figures) :
    plan.given.sum ≤ t.total ∧ figures = t.split plan.count (amountDue t.total plan.given plan.count) := by
  simp only [recompute, kind] at ok
  split at ok
  case isTrue => cases ok
  case isFalse short => exact ⟨Nat.le_of_not_lt short, (Except.ok.inj ok).symm⟩

theorem recompute_byItem (kind : plan.kind = .byItem) (ok : recompute v plan t lines = .ok figures) :
    negativePortion lines plan.count = false ∧ figures = (List.range' 1 plan.count).map
      (byItemFigures lines (allocatedTaxes v t lines plan.count) (allocatedService t lines plan.count)) := by
  simp only [recompute, kind] at ok
  split at ok
  case isTrue => cases ok
  case isFalse sound => exact ⟨Bool.eq_false_iff.mpr sound, (Except.ok.inj ok).symm⟩

theorem recompute_fixed (kind : plan.kind = .fixed) : recompute v plan t lines = .error .anchored := by
  simp only [recompute, kind]

/-- Under EVEN and AMOUNT the pre-tax parts follow from the dues. -/
theorem recompute_split (kind : plan.kind = .even ∨ plan.kind = .amount) (ok : recompute v plan t lines = .ok figures) :
    ∃ due, figures = t.split plan.count due := by
  obtain even | amount := kind
  · exact ⟨_, recompute_even even ok⟩
  · exact ⟨_, (recompute_amount amount ok).2⟩

/-- A recomputation gives every share of the list a due, and gives out the whole total, by the plan's kind. -/
theorem recompute_whole {covers : Nat} (first : 1 ≤ plan.count) (few : plan.count ≤ 16)
    (one : plan.kind = .none → plan.count = 1) (given : plan.kind = .amount → plan.given.length + 1 = plan.count)
    (sets : plan.kind = .byItem → SetsWithin plan.count lines)
    (ok : recompute v plan (workTotals v covers lines) lines = .ok figures) :
    figures.length = plan.count ∧ (figures.map fun g => g.due).sum = (workTotals v covers lines).total := by
  cases kind : plan.kind with
  | none =>
    rw [recompute_none kind ok, one kind]
    exact ⟨rfl, rfl⟩
  | even =>
    rw [recompute_even kind ok, Totals.split_dues]
    exact ⟨Totals.length_split _ _ _, sum_evenDue first _⟩
  | amount =>
    obtain ⟨room, rfl⟩ := recompute_amount kind ok
    rw [Totals.split_dues]
    exact ⟨Totals.length_split _ _ _, sum_amountDue (given kind) room⟩
  | byItem =>
    obtain ⟨sound, rfl⟩ := recompute_byItem kind ok
    exact ⟨by rw [List.length_map, List.length_range'], sum_byItemDues v covers few (sets kind) sound⟩
  | fixed =>
    rw [recompute_fixed kind] at ok
    cases ok

end

/-- Settles O32: the totals read off `workTotals` class by class; the dues by `recompute_whole`, and each plan's figures by its
own form of the recomputation. -/
theorem theDuesSumToTheTotal : Obligations.TheDuesSumToTheTotal := by
  unfold Obligations.TheDuesSumToTheTotal
  refine ⟨fun v lines covers => ?_, ?_⟩
  · simp only [← classBase_eq]
    refine ⟨negativeBase_iff lines, fun sound => ⟨fun c b base => ?_, rfl, fun c b rate tax base read taxed => ?_,
      serviceCharge_eq _ _ _⟩⟩
    · rw [workTotals_base, Option.ite_none_right_eq_some, Option.some_inj] at base
      obtain ⟨low, rfl⟩ := base
      exact Int.toNat_of_nonneg (classBase_nonneg sound low)
    · rw [workTotals_base, Option.ite_none_right_eq_some, Option.some_inj] at base
      rw [workTotals_tax, Option.ite_none_right_eq_some, Option.some_inj] at taxed
      obtain ⟨_, rfl⟩ := base
      obtain ⟨_, rfl⟩ := taxed
      exact classTax_eq read _
  · intro v plan lines covers figures _ range one given sets x ok
    simp only [within, Bool.and_eq_true, decide_eq_true_eq] at range
    obtain ⟨first, few⟩ := range
    obtain ⟨length, dues⟩ := recompute_whole first few one given sets ok
    refine ⟨length, dues, workTotals_total v covers lines, fun kind => recompute_none kind ok, fun k g read kind => ?_,
      fun k g read kind => ?_, fun g mem kind => ?_⟩
    · rw [recompute_even kind ok] at read
      exact Totals.split_read read
    · rw [(recompute_amount kind ok).2] at read
      exact Totals.split_read read
    · obtain ⟨due, rfl⟩ := recompute_split kind ok
      rw [Totals.split_preTax mem]
      exact ⟨proportion_eq _ _ _, proportion_le (workTotals_itemNet_le_total v covers lines) _⟩

end Sys2Proof.Machine
end

section
/-! PROOFS. The transmit arbiter (O56): the entry that it chooses from the send queue, and the slot of a new submission. -/

namespace Sys2Proof.Machine

/-! ### The entry that is chosen (R134) -/

section
variable {p : Part} {ofKind : EntryKind → Bool}

/-- Entries whose kinds do not pass the test are passed over. -/
theorem Part.oldestQueued_eq_none (none : ∀ j ∈ p.sendQueue, ∀ y, (p.entryCell j).use = some y → ofKind y.kind = false) :
    p.oldestQueued ofKind = .none := by
  refine List.findSome?_eq_none_iff.mpr fun j mem => ?_
  rw [Option.map_eq_none_iff, Option.filter_eq_none_iff]
  exact fun y use => by simp [none j mem y use]

/-- The first entry of the send queue whose kind passes the test is the oldest. -/
theorem Part.oldestQueued_eq {before after : List Nat} {e : Nat} {x : Entry} (queue : p.sendQueue = before ++ e :: after)
    (older : ∀ j ∈ before, ∀ y, (p.entryCell j).use = some y → ofKind y.kind = false)
    (use : (p.entryCell e).use = some x) (kind : ofKind x.kind = true) : p.oldestQueued ofKind = some (e, x) := by
  have passed := Part.oldestQueued_eq_none (p := { p with sendQueue := before }) older
  rw [Part.oldestQueued] at passed ⊢
  rw [queue, List.findSome?_append]
  refine (congrArg (Option.or · _) passed).trans ?_
  simp [use, kind]

end

theorem EntryKind.isReversal_eq_false {kind : EntryKind} (other : ∀ code source sequence, kind ≠ .reversal code source sequence) :
    kind.isReversal = false := by
  cases kind with
  | live token eligible => rfl
  | drain slot sequence => rfl
  | reversal code source sequence => exact absurd rfl (other code source sequence)

theorem EntryKind.isLive_eq_false {kind : EntryKind} (other : ∀ token eligible, kind ≠ .live token eligible) :
    kind.isLive = false := by
  cases kind with
  | live token eligible => exact absurd rfl (other token eligible)
  | drain slot sequence => rfl
  | reversal code source sequence => rfl

theorem Part.queuedCandidate_eq {p : Part} (up : p.alState ≠ .down) :
    p.queuedCandidate = (p.oldestQueued EntryKind.isReversal).or (p.oldestQueued EntryKind.isLive) := by
  unfold Part.queuedCandidate
  split
  · next down => exact absurd down up
  · rfl
  · rfl

/-- The oldest REVERSAL is chosen, whatever LIVE entries stand before it (R134). -/
theorem Part.queuedCandidate_reversal {p : Part} {before after : List Nat} {e : Nat} {x : Entry} {code : List Byte}
    {source : Source} {sequence : BitVec 32} (up : p.alState ≠ .down) (queue : p.sendQueue = before ++ e :: after)
    (older : ∀ j ∈ before, ∀ y code source sequence, (p.entryCell j).use = some y → y.kind ≠ .reversal code source sequence)
    (use : (p.entryCell e).use = some x) (kind : x.kind = .reversal code source sequence) :
    p.queuedCandidate = some (e, x) := by
  have oldest := Part.oldestQueued_eq (ofKind := EntryKind.isReversal) queue
    (fun j mem y used => EntryKind.isReversal_eq_false fun code source sequence => older j mem y code source sequence used)
    use (by rw [kind]; rfl)
  rw [Part.queuedCandidate_eq up, oldest, Option.some_or]

/-- With no REVERSAL in the send queue, the oldest LIVE is chosen (R134). -/
theorem Part.queuedCandidate_live {p : Part} {before after : List Nat} {e : Nat} {x : Entry} {token : List Byte}
    {eligible : Bool} (up : p.alState ≠ .down) (queue : p.sendQueue = before ++ e :: after)
    (noReversal : ∀ j ∈ p.sendQueue, ∀ y code source sequence, (p.entryCell j).use = some y →
      y.kind ≠ .reversal code source sequence)
    (older : ∀ j ∈ before, ∀ y token eligible, (p.entryCell j).use = some y → y.kind ≠ .live token eligible)
    (use : (p.entryCell e).use = some x) (kind : x.kind = .live token eligible) : p.queuedCandidate = some (e, x) := by
  have none := Part.oldestQueued_eq_none (ofKind := EntryKind.isReversal) fun j mem y used =>
    EntryKind.isReversal_eq_false fun code source sequence => noReversal j mem y code source sequence used
  have oldest := Part.oldestQueued_eq (ofKind := EntryKind.isLive) queue
    (fun j mem y used => EntryKind.isLive_eq_false fun token eligible => older j mem y token eligible used)
    use (by rw [kind]; rfl)
  rw [Part.queuedCandidate_eq up, none, oldest, Option.none_or]

theorem Part.queuedCandidate_empty {p : Part} (empty : p.sendQueue = []) : p.queuedCandidate = none := by
  unfold Part.queuedCandidate Part.oldestQueued
  rw [empty]
  split <;> rfl

/-! ### The grant (R130, R134, R135) -/

section
variable {s : State}

theorem Part.grantOpen_iff (p : Part) : p.grantOpen = true ↔
    p.control.startup = .ready ∧ p.entriesSent (fun _ => true) < p.venue.window ∧ 0 < p.freePlaces .al := by
  simp [Part.grantOpen, and_assoc]

/-- The chosen entry leaves the send queue and is SENT, and its frame joins the AL outbound queue. -/
theorem Part.sendEntry_eq {p : Part} (room : (p.link .al).outbound.length < 16) (e : Nat) (x : Entry) :
    p.sendEntry e x = Part.setLink
      { p with
        entries := p.entries.setIfInBounds e { p.entryCell e with use := some { x with state := .sent } }
        sendQueue := p.sendQueue.filter fun j => decide (j ≠ e) }
      .al { p.link .al with
        outbound := (p.link .al).outbound ++ [alFrame x.kind.requestKind (p.requestBody e x)]
        sending := (p.link .al).sending || (p.link .al).rdyIn } :=
  Part.enqueue_room (p := (p.unqueueEntry e).setUse e (some { x with state := .sent })) _ room

/-- REVERSAL_REQUEST (R130). -/
theorem Part.requestFrame_reversal (p : Part) (e : Nat) {x : Entry} {code : List Byte} {source : Source} {sequence : BitVec 32}
    (kind : x.kind = .reversal code source sequence) :
    alFrame x.kind.requestKind (p.requestBody e x) =
      { kind := 0x51, tag := 0, terminal := 0,
        body := leBytes 2 (p.reference e) ++ leBytes 1 source.code ++ code ++ leBytes 4 x.amount
          ++ leBytes 4 sequence.toNat } := by
  simp only [Part.requestBody, kind]
  rfl

/-- AUTH_REQUEST (R130). -/
theorem Part.requestFrame_live (p : Part) (e : Nat) {x : Entry} {token : List Byte} {eligible : Bool}
    (kind : x.kind = .live token eligible) :
    alFrame x.kind.requestKind (p.requestBody e x) =
      { kind := 0x50, tag := 0, terminal := 0,
        body := leBytes 2 (p.reference e) ++ leBytes 4 x.amount ++ leBytes 1 token.length ++ token } := by
  simp only [Part.requestBody, kind]
  rfl

/-- The entry that is chosen is sent. -/
theorem exec_arbiterGrant_sends {e : Nat} {x : Entry} {f : Frame} (ready : s.control.startup = .ready) (kept : s.kept = none)
    (room : (s.link .al).outbound.length < 16) (window : s.entriesSent (fun _ => true) < s.venue.window)
    (chosen : s.queuedCandidate = some (e, x)) (frame : alFrame x.kind.requestKind (s.requestBody e x) = f) :
    exec .arbiterGrant s = .next (s.become (Part.setLink
      { s with
        entries := s.entries.setIfInBounds e { s.entryCell e with use := some { x with state := .sent } }
        sendQueue := s.sendQueue.filter fun j => decide (j ≠ e) }
      .al { s.link .al with
        outbound := (s.link .al).outbound ++ [f], sending := (s.link .al).sending || (s.link .al).rdyIn })) := by
  have granted : s.arbiterGrant = s.sendEntry e x := by
    rw [Part.arbiterGrant, if_pos ((Part.grantOpen_iff _).mpr ⟨ready, window, Part.freePlaces_pos kept room⟩), chosen]
  rw [Part.sendEntry_eq room, frame] at granted
  exact congrArg (fun q => Host.Outcome.next (s.become q)) granted

/-- With no entry to send, a new submission is started when one can be. -/
theorem exec_arbiterGrant_submits (ready : s.control.startup = .ready) (kept : s.kept = none)
    (room : (s.link .al).outbound.length < 16) (window : s.entriesSent (fun _ => true) < s.venue.window)
    (chosen : s.queuedCandidate = none) : exec .arbiterGrant s = .next (s.become s.startSubmission) := by
  have granted : s.arbiterGrant = s.startSubmission := by
    rw [Part.arbiterGrant, if_pos ((Part.grantOpen_iff _).mpr ⟨ready, window, Part.freePlaces_pos kept room⟩), chosen]
  rw [← granted]
  rfl

/-- While AL is DOWN, and while the window is full, the arbiter sends nothing. -/
theorem exec_arbiterGrant_idle (idle : s.alState = .down ∨ s.venue.window ≤ s.entriesSent (fun _ => true)) :
    exec .arbiterGrant s = .next s := by
  have granted : s.arbiterGrant = s.toPart := by
    unfold Part.arbiterGrant
    split
    · next grant =>
      obtain ⟨_, window, _⟩ := (Part.grantOpen_iff _).mp grant
      have down : s.alState = .down := idle.resolve_right (Nat.not_le.mpr window)
      simp [Part.queuedCandidate, Part.startSubmission, Part.drainAllowed, down]
    · rfl
  exact congrArg (fun q => Host.Outcome.next (s.become q)) granted

end

/-! ### The slot and the tender of a new submission (R136, R159) -/

/-- A search that keeps one of two elements at each step comes to the one that wins against every other. -/
theorem foldl_eq_of_wins {α : Type} {keep : α → α → α} {y : α} (either : ∀ a b, keep a b = a ∨ keep a b = b) (xs : List α)
    (x : α) (mem : y ∈ x :: xs) (wins : ∀ z ∈ x :: xs, keep y z = y ∧ keep z y = y) : xs.foldl keep x = y := by
  induction xs generalizing x with
  | nil => exact (List.mem_singleton.mp mem).symm
  | cons z rest ih =>
    refine ih (keep x z) ?_ fun w hw => wins w ?_
    · obtain rfl | rfl | later := List.mem_cons.mp mem |>.imp_right List.mem_cons.mp
      · simp [(wins z (by simp)).1]
      · simp [(wins x (by simp)).2]
      · exact List.mem_cons_of_mem _ later
    · obtain rfl | later := List.mem_cons.mp hw
      · obtain e | e := either x z <;> simp [e]
      · simp [later]

theorem lowerSequence_cases (a b : Nat × Slot) : lowerSequence a b = a ∨ lowerSequence a b = b := by
  unfold lowerSequence
  split
  · exact .inr rfl
  · exact .inl rfl

/-- Of two slots, the one that the other is later than is the lower. -/
theorem lowerSequence_of_later {a b : Nat × Slot} (h : later b.2.sequence a.2.sequence = true) :
    lowerSequence a b = a ∧ lowerSequence b a = a :=
  ⟨if_neg (by simp [later_asymm h]), if_pos h⟩

/-- The PENDING slot of the lowest sequence that no DRAIN entry names is handed out, when the journal is not locked. -/
theorem Part.slotForDrain_eq {p : Part} {j : Nat} {z : Slot} (unlocked : p.journal.locked = false)
    (slot : p.journal.slotAt j = some z) (pending : z.state = .pending) (unnamed : p.drainNames j = false)
    (lowest : ∀ k w, p.journal.slotAt k = some w → w.state = .pending → p.drainNames k = false → k ≠ j →
      0 < (w.sequence - z.sequence).toInt) : p.slotForDrain = some (j, z) := by
  have candidate : ∀ k w, (k, w) ∈ (inUse p.journal.mirror).filter
        (fun x => decide (x.2.state = .pending) && !p.drainNames x.1) ↔
      p.journal.slotAt k = some w ∧ w.state = .pending ∧ p.drainNames k = false := by
    intro k w
    simp [mem_inUse, Journal.slotAt]
  have mem := (candidate j z).mpr ⟨slot, pending, unnamed⟩
  unfold Part.slotForDrain
  rw [unlocked, if_neg Bool.false_ne_true]
  split
  · next none => simp [none] at mem
  · next x rest list =>
    rw [list] at mem candidate
    refine congrArg some (foldl_eq_of_wins lowerSequence_cases rest x mem fun (k, w) other => ?_)
    obtain ⟨found, waits, free⟩ := (candidate k w).mp other
    by_cases same : k = j
    · subst same
      cases Option.some.inj (found.symm.trans slot)
      exact ⟨ite_self _, ite_self _⟩
    · exact lowerSequence_of_later (decide_eq_true (lowest k w found waits free same))

theorem Part.slotForDrain_locked {p : Part} (locked : p.journal.locked = true) : p.slotForDrain = none := if_pos locked

theorem findTenderIn_eq_none {test : Tender → Bool} {checks : List (Nat × Check)} (h : findTenderIn test checks = none) :
    ∀ x ∈ checks, ∀ t ∈ x.2.tenders, test t = false := by
  induction checks with
  | nil => simp
  | cons first rest ih =>
    rw [findTenderIn] at h
    split at h
    · cases h
    · next none => exact List.forall_mem_cons.mpr ⟨by simpa using none, ih h⟩

theorem findTenderIn_eq_some {test : Tender → Bool} {checks : List (Nat × Check)} {i : Nat} {d : Check} {t : Tender}
    (h : findTenderIn test checks = some (i, d, t)) : (i, d) ∈ checks ∧ t ∈ d.tenders ∧ test t = true := by
  induction checks with
  | nil => cases h
  | cons first rest ih =>
    rw [findTenderIn] at h
    split at h
    · next found =>
      cases h
      exact ⟨List.mem_cons_self, List.mem_of_find?_eq_some found, List.find?_some found⟩
    · obtain ⟨mem, tender⟩ := ih h
      exact ⟨List.mem_cons_of_mem _ mem, tender⟩

/-- The tender that a search names, when all that pass the test share its slot and id. -/
theorem Part.findTender_ref {p : Part} {test : Tender → Bool} {slot : Nat} {c : Check} {y : Tender}
    (check : p.checkAt slot = some c) (tender : y ∈ c.tenders) (passes : test y = true)
    (only : ∀ i d w, p.checkAt i = some d → w ∈ d.tenders → test w = true → i = slot ∧ w.id = y.id) :
    ((p.findTender test).map fun x => ({ slot := x.1, id := x.2.2.id } : TenderRef)) = some { slot := slot, id := y.id } := by
  cases found : p.findTender test with
  | none =>
    have passedOver := findTenderIn_eq_none found (slot, c) ((mem_inUse _ _ _).mpr check) y tender
    simp [passes] at passedOver
  | some x =>
    obtain ⟨i, d, w⟩ := x
    obtain ⟨mem, listed, fits⟩ := findTenderIn_eq_some found
    obtain ⟨sameSlot, sameId⟩ := only i d w ((mem_inUse _ _ _).mp mem) listed fits
    simp [sameSlot, sameId]

/-! ### A new submission (R130, R136) -/

theorem Part.drainAllowed_iff (p : Part) : p.drainAllowed = true ↔
    p.alState = .up ∧ p.sendQueue = [] ∧ p.entriesSent EntryKind.isDrain < p.venue.drainShare ∧ 9 ≤ p.freeList.length := by
  simp only [Part.drainAllowed, Bool.and_eq_true, decide_eq_true_eq, List.isEmpty_iff, and_assoc]
  rfl

/-- A submission that may be started takes the head of the free list for the slot handed out. -/
theorem Part.startSubmission_eq {p : Part} {e slot : Nat} {rest : List Nat} {z : Slot} (allowed : p.drainAllowed = true)
    (free : p.freeList = e :: rest) (handed : p.slotForDrain = some (slot, z))
    (room : (p.link .al).outbound.length < 16) :
    p.startSubmission = Part.setLink
      { p with
        entries := p.entries.setIfInBounds e { p.entryCell e with use := some (p.drainEntry slot z) }
        freeList := rest
        clockUnit := { p.clockUnit with
          deadlines := placeDeadline { due := p.now + p.authTime, owner := p.entryOwner e } p.clockUnit.deadlines } }
      .al { p.link .al with
        outbound := (p.link .al).outbound ++ [alFrame kindSubmitDeferred (submitBody (p.reference e) z)]
        sending := (p.link .al).sending || (p.link .al).rdyIn } := by
  have taken := p.takeEntry_cons (p.drainEntry slot z) p.authTime free
  rw [if_neg (show (p.drainEntry slot z).state ≠ .queued from nofun)] at taken
  have started : p.startSubmission = (p.takeEntry (p.drainEntry slot z) p.authTime).enqueue .al
      (alFrame kindSubmitDeferred (submitBody (p.reference e) z)) := by
    simp only [Part.startSubmission, allowed, free, handed]
  rw [started, taken]
  exact Part.enqueue_room _ room

theorem Part.startSubmission_of_not_allowed {p : Part} (no : p.drainAllowed = false) : p.startSubmission = p := by
  simp only [Part.startSubmission, no]

theorem Part.startSubmission_of_no_slot {p : Part} (no : p.slotForDrain = none) : p.startSubmission = p := by
  unfold Part.startSubmission
  split
  · next handed => rw [no] at handed; cases handed
  · rfl

/-- Under the lock, and with fewer than 9 FREE entries, no submission is started. -/
theorem Part.startSubmission_stays {p : Part} (no : p.journal.locked = true ∨ p.freeList.length < 9) :
    p.startSubmission = p := by
  obtain locked | few := no
  · exact Part.startSubmission_of_no_slot (Part.slotForDrain_locked locked)
  · refine Part.startSubmission_of_not_allowed (Bool.eq_false_iff.mpr fun allowed => ?_)
    obtain ⟨_, _, _, nine⟩ := (Part.drainAllowed_iff _).mp allowed
    omega

/-- Settles O56: the grants by the entry that is chosen, the submission by the slot and the tender that the searches find. -/
theorem theArbiterGrants : Obligations.TheArbiterGrants := by
  refine ⟨fun s ready kept room => ?_, ?_⟩
  · intro grants reference noReversal
    refine ⟨?_, ?_, fun idle => exec_arbiterGrant_idle idle⟩
    · intro before e after x code source sequence up window queue older use kind
      have granted := exec_arbiterGrant_sends ready kept room window
        (Part.queuedCandidate_reversal up queue older use kind) (s.requestFrame_reversal e kind)
      cases source with
      | authorization => exact granted
      | submission => exact granted
    · intro before e after x token eligible up window queue noneReverses older use kind
      exact exec_arbiterGrant_sends ready kept room window
        (Part.queuedCandidate_live up queue noneReverses older use kind) (s.requestFrame_live e kind)
  · intro s e slot j rest z c y ready kept room up empty window share free found pending unnamed lowest check listed deferred
      only entry f
    have submits := exec_arbiterGrant_submits ready kept room window (Part.queuedCandidate_empty empty)
    have length : s.freeList.length = rest.length + 1 := by rw [free, List.length_cons]
    refine ⟨fun unlocked many => ?_, fun no => ?_⟩
    · have allowed : s.drainAllowed = true := (Part.drainAllowed_iff _).mpr ⟨up, empty, share, by omega⟩
      have reference := Part.findTender_ref (test := fun t => decide (t.state = .deferred j)) check listed
        (decide_eq_true deferred) fun i d w stands mem named => only i d w stands mem (of_decide_eq_true named)
      have taken : s.drainEntry j z = entry := by
        rw [Part.drainEntry, reference]
        rfl
      rw [Part.startSubmission_eq allowed free (Part.slotForDrain_eq unlocked found pending unnamed lowest) room, taken]
        at submits
      exact submits
    · rw [Part.startSubmission_stays (no.imp_right fun few => by omega)] at submits
      exact submits

end Sys2Proof.Machine
end

section
/-! PROOFS. The gateway link (O50): the AL state's moves by frames and expiries, and what each answer then does to its entry. -/

namespace Sys2Proof.Machine

/-! ### Expiries (R131, R133, R172) -/

section
variable {p : Part} {due : Time} {rest : List Deadline} {owner : Owner}

/-- The owner of the first deadline, once it is due while the part runs. -/
theorem Part.dueOwner_first (running : p.control.startup.running = true)
    (list : p.clockUnit.deadlines = { due := due, owner := owner } :: rest) (fallen : (due - p.now).toInt ≤ 0) :
    p.dueOwner = some owner := by
  have fallenDue : reached p.now due = true := decide_eq_true fallen
  simp [Part.dueOwner, list, running, fallenDue]

theorem Part.deliver_first (list : p.clockUnit.deadlines = { due := due, owner := owner } :: rest) :
    p.deliver = p.setClock { p.clockUnit with deadlines := rest } := by
  rw [Part.deliver, list]
  rfl

/-- The notice of a change tells the new state, the old one and the cause (R133). -/
theorem Part.changeAl_eq (p : Part) (new : AlState) (cause : Nat) :
    p.changeAl new cause = Part.notice { p with alState := new } 5
      [BitVec.ofNat 8 new.code, BitVec.ofNat 8 p.alState.code, BitVec.ofNat 8 cause] := rfl

theorem Part.alSettleExpiry_settling (expires : p.dueOwner = some .alSettle) (state : p.alState = .settling) :
    p.alSettleExpiry = Part.notice { p.deliver with alState := .up } 5 [2, 1, 2] := by
  have delivered : p.deliver.alState = .settling := state
  rw [Part.alSettleExpiry, if_pos expires, state]
  dsimp only
  rw [Part.changeAl_eq, delivered]
  rfl

theorem Part.alAliveExpiry_heard (expires : p.dueOwner = some .alAlive) (state : p.alState ≠ .down) :
    p.alAliveExpiry = Part.notice { p.deliver.cancel .alSettle with alState := .down } 5
      [0, BitVec.ofNat 8 p.alState.code, 3] := by
  rw [Part.alAliveExpiry, if_pos expires]
  split
  · exact Part.changeAl_eq _ _ _
  · exact Part.changeAl_eq _ _ _
  · next down => exact absurd down state

end

/-! ### What moves the link, and what that leaves (R131) -/

theorem Part.alMoved_of_not_down {p : Part} (heard : p.alState ≠ .down) :
    p.alMoved = p.rearm .alAlive (seconds p.venue.aliveTimeout) := by
  rw [← Part.alHeard_eq_alMoved, Part.alHeard_of_not_down heard]

theorem Part.alMoved_of_down {p : Part} (down : p.alState = .down) : p.alMoved =
    if p.venue.settleInterval = 0 then
      Part.notice { p.arm .alAlive (seconds p.venue.aliveTimeout) with alState := .up } 5 [2, 0, 1]
    else
      Part.notice { (p.arm .alAlive (seconds p.venue.aliveTimeout)).arm .alSettle (seconds p.venue.settleInterval) with
        alState := .settling } 5 [1, 0, 1] := by
  rw [Part.alMoved, down]

section
variable (p : Part)

@[simp] theorem Part.alMoved_journal : p.alMoved.journal = p.journal :=
  Part.alMoved_leaves Part.journal (fun q k f => q.notice_journal k f) (fun _ _ => rfl) (fun _ _ _ => rfl) (fun _ _ => rfl) p

@[simp] theorem Part.alMoved_sendQueue : p.alMoved.sendQueue = p.sendQueue :=
  Part.alMoved_leaves Part.sendQueue (fun q k f => q.notice_sendQueue k f) (fun _ _ => rfl) (fun _ _ _ => rfl)
    (fun _ _ => rfl) p

@[simp] theorem Part.alMoved_control : p.alMoved.control = p.control :=
  Part.alMoved_leaves Part.control (fun q k f => q.notice_control k f) (fun _ _ => rfl) (fun _ _ _ => rfl) (fun _ _ => rfl) p

@[simp] theorem Part.alMoved_staleReplies : p.alMoved.staleReplies = p.staleReplies :=
  Part.alMoved_leaves Part.staleReplies (fun q k f => by rw [q.notice_eq k f]) (fun _ _ => rfl) (fun _ _ _ => rfl)
    (fun _ _ => rfl) p

end

/-! ### A frame handled for its kind (R129, R131; log entry 37) -/

section
variable {s : State} {f : Frame}

/-- What a gateway frame does to the part once the link has moved, by the command that takes it. -/
def Part.gatewayEffect (q : Part) (c : Instr) (f : Frame) : Part :=
  match c with
  | .authReply => q.authReply f
  | .reversalReply => q.reversalReply f
  | .submitReply => q.submitReply f
  | .gatewayError => q.gatewayError f
  | _ => q

/-- A valid gateway frame moves the link, and its handler takes the part after the move. -/
theorem exec_gateway_moved {c : Instr} {handles : Frame → Bool} {handler : Frame → Part → Part}
    (ready : s.gatewayReady f.kind f = true) (takes : handles f = true)
    (row : exec c s = .next (s.become (s.serveGateway handles fun g q => q.takeAnswer g handler))) :
    exec c s = .next (s.become (handler f (s.dropHead .al).alMoved)) := by
  rw [row, Part.serveGateway_ready ready takes, Part.alHeard_eq_alMoved]

theorem exec_gateway {c : Instr} (takes : takesFromGateway c f) (ready : s.gatewayReady f.kind f = true) :
    exec c s = .next (s.become ((s.dropHead .al).alMoved.gatewayEffect c f)) := by
  have ofTheKind : ∀ {k}, f.kind = k → ofKind k f = true := (ofKind_iff _ f).mpr
  obtain ⟨kind, rfl⟩ | ⟨kind, rfl⟩ | ⟨kind, rfl⟩ | ⟨kind, rfl⟩ | ⟨kind, rfl⟩ := takes
  · exact exec_gateway_moved (handler := fun g q => q.authReply g) ready (ofTheKind kind) rfl
  · exact exec_gateway_moved (handler := fun g q => q.reversalReply g) ready (ofTheKind kind) rfl
  · exact exec_gateway_moved (handler := fun g q => q.submitReply g) ready (ofTheKind kind) rfl
  · exact exec_gateway_moved (handler := fun g q => q.gatewayError g) ready (ofTheKind kind) rfl
  · exact exec_gateway_moved (handler := fun _ q => q) ready (ofTheKind kind) rfl

end

/-! ### Answers (R129, R140, R143 to R145) -/

section
variable {p : Part} {f : Frame}

/-- Where no entry in use stands under the reference, every answer is counted stale, whatever its kind. -/
theorem Part.gatewayEffect_stale {c : Instr} (takes : takesFromGateway c f) (answers : c ≠ .linkAlive)
    (none : 48 ≤ fieldAt f.body 0 1 ∨ (p.entryCell (fieldAt f.body 0 1)).generation.toNat ≠ fieldAt f.body 1 1 ∨
      (p.entryCell (fieldAt f.body 0 1)).use = .none) :
    p.gatewayEffect c f = { p with staleReplies := saturate 65535 p.staleReplies } := by
  have stale : ∀ (fits : Entry → Bool) (act : Nat → Entry → Part → Part),
      p.answer f fits act = { p with staleReplies := saturate 65535 p.staleReplies } := fun fits act =>
    Part.answer_stale act (none.imp_right (Or.imp_right fun free x use => by rw [free] at use; cases use))
  obtain ⟨_, rfl⟩ | ⟨_, rfl⟩ | ⟨_, rfl⟩ | ⟨_, rfl⟩ | ⟨_, rfl⟩ := takes
  · exact (stale _ _ : p.authReply f = _)
  · exact (stale _ _ : p.reversalReply f = _)
  · exact (stale _ _ : p.submitReply f = _)
  · exact (stale _ _ : p.gatewayError f = _)
  · exact absurd rfl answers

section
variable {e : Nat} {x : Entry} (index : e = fieldAt f.body 0 1) (inside : e < 48)
  (generation : (p.entryCell e).generation.toNat = fieldAt f.body 1 1) (use : (p.entryCell e).use = some x)
include index inside generation use

theorem Part.reversalReply_frees {code : List Byte} {source : Source} {sequence : BitVec 32}
    (kind : x.kind = .reversal code source sequence) (state : x.state ≠ .watch) : p.reversalReply f = p.freeEntry e := by
  subst index
  exact Part.answer_matched _ inside generation use (by simp [kind, EntryKind.isReversal, Entry.watching, state])

theorem Part.authReply_late {token : List Byte} {eligible : Bool} (kind : x.kind = .live token eligible)
    (state : x.state = .watch) : p.authReply f = p.answerLate f e x := by
  subst index
  rw [Part.authReply, Part.answer_matched _ inside generation use (by simp [kind, EntryKind.isLive, Entry.watching, state])]
  exact if_neg (by simp [Entry.sent, state])

theorem Part.submitReply_answers {slot : Nat} {sequence : BitVec 32} (kind : x.kind = .drain slot sequence)
    (state : x.state ≠ .queued) : p.submitReply f = p.answerSubmission f e x slot sequence := by
  subst index
  have fits : (x.kind.isDrain && (x.sent || x.watching)) = true := by
    rw [kind]
    cases stands : x.state with
    | queued => exact absurd stands state
    | sent => simp [EntryKind.isDrain, Entry.sent, stands]
    | watch => simp [EntryKind.isDrain, Entry.watching, stands]
  rw [Part.submitReply, Part.answer_matched _ inside generation use fits, kind]

end

theorem Frame.approval_of_approved (approved : fieldAt f.body 2 1 = 0) : f.approval = some (bytesAt f.body 3 6) :=
  if_pos approved

theorem Frame.approval_of_declined (declined : fieldAt f.body 2 1 = 1) : f.approval = none :=
  if_neg (by simp [Frame.field, declined])

theorem Frame.lateMark_eq (f : Frame) : f.lateMark =
    if fieldAt f.body 2 1 = 0 then .confirmed (bytesAt f.body 3 6) else .declined (fieldAt f.body 9 1) := by
  unfold Frame.lateMark Frame.approval
  by_cases approved : fieldAt f.body 2 1 = 0 <;> simp [Frame.field, Frame.reason, approved]

theorem Part.setTenderState_eq {slot : Nat} {d : Check} (check : p.checkAt slot = some d) (id : Nat) (state : TenderState) :
    p.setTenderState slot id state = p.setCheck slot (some (d.updateTender id fun w => { w with state := state })) := by
  rw [Part.setTenderState, check]

theorem Part.tenderOf_none {x : Entry} (orphan : x.tender = none) : p.tenderOf x = none := by
  rw [Part.tenderOf, orphan]

/-- A late answer on a DEFERRING tender is kept as its late mark (R140). -/
theorem Part.answerLate_deferring {e slot journalSlot : Nat} {x : Entry} {d : Check} {y : Tender} {mark : LateMark}
    (reference : x.tender = some { slot := slot, id := y.id }) (check : p.checkAt slot = some d)
    (tender : d.tender y.id = some y) (state : y.state = .deferring journalSlot mark) :
    p.answerLate f e x = (p.setCheck slot (some (d.updateTender y.id fun w =>
      { w with state := .deferring journalSlot f.lateMark }))).freeEntry e := by
  simp only [Part.answerLate, Part.tenderOf_eq reference check tender, state, Part.setTenderState_eq check]

/-- No tender that waits for a late answer stands behind the entry: it is an orphan, or its tender is neither DEFERRING nor
DEFERRED (R140). -/
def Part.LateUnwanted (p : Part) (x : Entry) : Prop :=
  x.tender = none ∨ ∃ slot d y, x.tender = some { slot := slot, id := y.id } ∧ p.checkAt slot = some d ∧
    d.tender y.id = some y ∧ (∀ journalSlot mark, y.state ≠ .deferring journalSlot mark) ∧
    ∀ journalSlot, y.state ≠ .deferred journalSlot

theorem Part.answerLate_unwanted {x : Entry} (unwanted : p.LateUnwanted x) (e : Nat) :
    p.answerLate f e x = p.lateUnwanted f e x := by
  obtain orphan | ⟨slot, d, y, reference, check, tender, notDeferring, notDeferred⟩ := unwanted
  · rw [Part.answerLate, Part.tenderOf_none orphan]
  · rw [Part.answerLate, Part.tenderOf_eq reference check tender]
    dsimp only
    split
    · next state => exact absurd state (notDeferring _ _)
    · next state => exact absurd state (notDeferred _)
    all_goals rfl

/-- An approval that no tender wants turns the entry into a REVERSAL that holds its code (R143). -/
theorem Part.lateUnwanted_approved (approved : fieldAt f.body 2 1 = 0) (e : Nat) (x : Entry) :
    p.lateUnwanted f e x =
      { (p.setUse e (some { x with kind := .reversal (bytesAt f.body 3 6) .authorization 0, state := .queued })).rearm
          (.auth e (p.entryCell e).generation) (seconds p.venue.lateWindow) with
        sendQueue := p.sendQueue ++ [e] } := by
  rw [Part.lateUnwanted, Frame.approval_of_approved approved]
  rfl

theorem Part.lateUnwanted_declined (declined : fieldAt f.body 2 1 = 1) (e : Nat) (x : Entry) :
    p.lateUnwanted f e x = p.freeEntry e := by
  rw [Part.lateUnwanted, Frame.approval_of_declined declined]

/-- The answer to a submission of a slot that is no longer PENDING, with no REVERSED tender, frees the entry (R145, R159). -/
theorem Part.answerSubmission_frees {x : Entry} {slot : Nat} {sequence : BitVec 32}
    (gone : ∀ z, p.journal.slotAt slot = some z → z.sequence ≠ sequence ∨ z.state ≠ .pending)
    (stands : x.tender = none ∨ ∃ slot d y, x.tender = some { slot := slot, id := y.id } ∧ p.checkAt slot = some d ∧
      d.tender y.id = some y ∧ y.state ≠ .reversed) (e : Nat) :
    p.answerSubmission f e x slot sequence = p.freeEntry e := by
  have notPending : p.journal.stillPending slot sequence = false := by
    unfold Journal.stillPending
    split
    · next z found =>
      obtain other | other := gone z found
      · rw [decide_eq_false other, Bool.false_and]
      · rw [decide_eq_false other, Bool.and_false]
    · rfl
  have notReversed : p.tenderReversed x = false := by
    obtain orphan | ⟨slot, d, y, reference, check, tender, state⟩ := stands
    · rw [Part.tenderReversed, Part.tenderOf_none orphan]
    · rw [Part.tenderReversed, Part.tenderOf_eq reference check tender]
      exact decide_eq_false state
  simp [Part.answerSubmission, notPending, notReversed]

end

/-- Settles O50: the link's own moves; then, for each answer, its handler on the part after the move. -/
theorem theGatewayLinkComesAndGoes : Obligations.TheGatewayLinkComesAndGoes := by
  intro s alive settle changed
  refine ⟨fun f ready => ?_, fun due rest running fallen => ?_, fun c f takes ready => ?_⟩
  · obtain ⟨_, _, _, kind, _⟩ := Part.gatewayReady_iff.mp ready
    have moved : exec .linkAlive s = .next (s.become (s.dropHead .al).alMoved) :=
      exec_gateway (c := .linkAlive) (by simp [takesFromGateway, kind]) (kind.symm ▸ ready)
    refine ⟨fun heard => ?_, fun down zero => ?_, fun down positive => ?_⟩
    · rw [moved, Part.alMoved_of_not_down (p := s.dropHead .al) heard]
      rfl
    · rw [moved, Part.alMoved_of_down (p := s.dropHead .al) down]
      exact congrArg (fun r => Host.Outcome.next (s.become r)) (if_pos zero)
    · rw [moved, Part.alMoved_of_down (p := s.dropHead .al) down]
      exact congrArg (fun r => Host.Outcome.next (s.become r)) (if_neg positive)
  · refine ⟨fun list state => ?_, fun list => ?_⟩
    · have expired := Part.alSettleExpiry_settling (Part.dueOwner_first running list fallen) state
      rw [Part.deliver_first list] at expired
      exact congrArg (fun r => Host.Outcome.next (s.become r)) expired
    · have expired := Part.alAliveExpiry_heard (Part.dueOwner_first running list fallen)
      rw [Part.deliver_first list] at expired
      refine ⟨fun state => ?_, fun state => ?_⟩
      all_goals
        rw [state] at expired
        exact congrArg (fun r => Host.Outcome.next (s.become r)) (expired nofun)
  · intro e q
    have handled : exec c s = .next (s.become (q.gatewayEffect c f)) := exec_gateway takes ready
    have cell : q.entryCell e = s.entryCell e := (s.dropHead .al).alMoved_entryCell e
    have check : ∀ i, q.checkAt i = s.checkAt i := (s.dropHead .al).alMoved_checkAt
    have journal : q.journal = s.journal := (s.dropHead .al).alMoved_journal
    have queue : q.sendQueue = s.sendQueue := (s.dropHead .al).alMoved_sendQueue
    have venue : q.venue = s.venue := congrArg Control.venue (s.dropHead .al).alMoved_control
    have stale : q.staleReplies = s.staleReplies := (s.dropHead .al).alMoved_staleReplies
    refine ⟨by rintro rfl; exact handled, by rintro rfl; exact handled, by rintro rfl; exact handled,
      by rintro rfl; exact handled, fun answers none => ?_, fun x inside generation use => ?_⟩
    · rw [← cell] at none
      rw [handled, Part.gatewayEffect_stale takes answers none, stale]
    · rw [← cell] at generation use
      simp only [← check, ← journal]
      refine ⟨?_, ?_, ?_⟩
      · rintro code source sequence rfl kind state
        rw [handled]
        exact congrArg (fun r => Host.Outcome.next (s.become r))
          (Part.reversalReply_frees rfl inside generation use kind state)
      · rintro token eligible rfl kind state
        have late : q.gatewayEffect .authReply f = q.answerLate f e x :=
          Part.authReply_late rfl inside generation use kind state
        rw [handled, late]
        refine ⟨fun slot d y journalSlot mark reference stands tender deferring => ?_, fun unwanted => ?_⟩
        · rw [Part.answerLate_deferring reference stands tender deferring, Frame.lateMark_eq]
        · rw [Part.answerLate_unwanted unwanted]
          refine ⟨fun approved => ?_, fun declined => ?_⟩
          · rw [Part.lateUnwanted_approved approved, cell, queue, venue]
          · rw [Part.lateUnwanted_declined declined]
      · rintro journalSlot sequence rfl kind state gone stands
        have answered : q.gatewayEffect .submitReply f = q.answerSubmission f e x journalSlot sequence :=
          Part.submitReply_answers rfl inside generation use kind state
        rw [handled, answered, Part.answerSubmission_frees gone stands]

end Sys2Proof.Machine
end
